-- ==== Sys2Proof/Word.lean ====
section
/-! DEFINITION. The byte of the ring's frames. Everything else the manual counts is a Nat or an Int
(spec/00_scope.md section 3.2: all process arithmetic is integer arithmetic). -/

namespace Sys2Proof

/-- One byte of a frame, a slot payload or a management record (R183). -/
abbrev Byte := BitVec 8

end Sys2Proof
end

