-- ==== Sys2Proof/Config.lean ====
section
/-! DEFINITION. What the manual leaves open: free values. None of them has a body, so nothing in Lean can
evaluate one or prove a value of it (notes/assumptions/11.md and 12.md). -/

namespace Sys2Proof.Config

/-- The target radius of an arm command written in STEP_WAIT or REPORT_HOLD while the readback store has
never taken an arm radius and no command has been written: R76 keeps "the target radius of the last command"
and there is none. Applied to the state's count of free values used. -/
opaque freeRadius : Nat → BitVec 16

/-- The disk speed of an arm command written in STEP_WAIT or REPORT_HOLD while no command has been written:
R76 takes "the disk speed of the last command" and there is none. -/
opaque freeDiskSpeed : Nat → BitVec 8

/-- What is forwarded for a corrupt frame of fewer than four bytes, which has no CRC field for R169 to force
bad. Applied to the frame's own bytes. -/
opaque freeShortFrame : List Byte → List Byte

end Sys2Proof.Config
end

