-- ==== Sys2Proof/Syntax.lean ====
section
/-! DEFINITION. The commands of the part: one constructor per row of spec/opcode_table.json, with the row's
operands. The table gives no operand fields; the operands are those the row's rule names (a head, an input,
a frame's bytes, a record's fields). -/

namespace Sys2Proof

/-- Head A and head B (00_scope 3.1). -/
inductive Head where
  | a | b
deriving DecidableEq, Repr

/-- The two ring ports: U faces the tool controller, D the platen (R167). -/
inductive Port where
  | u | d
deriving DecidableEq, Repr

/-- A zone of a head: 0 to 6 are Z1 to Z7, 7 is ZR (R31). -/
abbrev Zone := Fin 8

/-- A slurry channel, metering through the pulse output of the same number (00_scope 3.1). -/
abbrev Channel := Fin 4

/-- A discrete input, DI0 to DI7 (section 8.1). -/
abbrev InputId := Fin 8

/-- A readback binding of the slot map (section 10.11; 23 in all, R175). -/
inductive ReadbackId where
  | zone (h : Head) (z : Zone)
  | velocity (h : Head)
  | conditioner
  | flow (c : Channel)
deriving DecidableEq, Repr

/-- The accepted edges that drive no block (R143): they change only the input's accepted level. -/
inductive QuietEdge where
  | estopRising | doorRising | leakFalling | platenIndexFalling
  | waferRising (h : Head)
deriving DecidableEq, Repr

/-- The parts of a management frame that a request's row leaves free: the header bytes the part does not read
and the record's own bytes (R182, R183). The request kind belongs to the row, and so do the table id of an
entry request and the parameter id of a SET_PARAM row. -/
structure Envelope where
  flags   : Byte
  cycle   : BitVec 16
  byte5   : Byte
  target  : Byte
  tag     : BitVec 16
  status  : Byte
  length  : Byte
  mark    : Byte
  pad     : Vector Byte 6
  data    : Vector Byte 48
deriving DecidableEq, Repr

/-- The commands. -/
inductive Instr where
  /-- Power-on or the reset pin; `straps` are the levels of ADDR0 to ADDR5, ADDR0 least significant (R181). -/
  | powerOnReset (straps : BitVec 6)
  /-- A frame received whole at port U that is a CYCLE frame or corrupt (R171). -/
  | outboundCycleFrame (frame : List Byte)
  /-- A frame received whole at port D that is a CYCLE frame or corrupt (R172). -/
  | returnCycleFrame (frame : List Byte)
  /-- A MANAGEMENT frame, as bytes, at either port (R182). -/
  | managementFrameForward (port : Port) (frame : List Byte)
  /-- The age of one readback binding passes the stale limit (R176). -/
  | readbackAgeStale (k : ReadbackId)
  /-- A taken head directive, with its count and the endpoint flag of its slot (R7 to R14). -/
  | start (h : Head) (count : BitVec 4) (endpoint : Bool)
  | hold (h : Head) (count : BitVec 4) (endpoint : Bool)
  | resume (h : Head) (count : BitVec 4) (endpoint : Bool)
  | stop (h : Head) (count : BitVec 4) (endpoint : Bool)
  | vent (h : Head) (count : BitVec 4) (endpoint : Bool)
  | recover (h : Head) (count : BitVec 4) (endpoint : Bool)
  /-- The step timer of a TIME step reaches its duration (R22). -/
  | stepTimeExit (h : Head)
  /-- The step timer of any other step reaches its duration (R23). -/
  | stepCap (h : Head)
  /-- A taken conditioner directive, with its count (R87 to R90). -/
  | startSweep (count : BitVec 4)
  | stopSweep (count : BitVec 4)
  | step (count : BitVec 4)
  /-- The traverse timer reaches the traverse limit (R79). -/
  | condTraverseTimeout
  /-- The dwell counter reaches the segment's dwell (R80). -/
  | dwellEnd
  /-- The interval counter reaches the program's interval (R84). -/
  | intervalTrigger
  /-- A taken slurry directive, with its count and, for SELECT, its blend index byte (R114, R115). -/
  | select (count : BitVec 4) (blend : Byte)
  | release (count : BitVec 4)
  /-- A pulse counter wraps (R130), or reaches its compare value (R131). -/
  | counterWrap (c : Channel)
  | compareMatch (c : Channel)
  /-- A zone's track deviation reaches its persistence with this readback (R50). -/
  | trackPersistence (h : Head) (z : Zone) (readback : BitVec 16)
  /-- A channel's flow deviation reaches its persistence with this readback (R124). -/
  | flowPersistence (c : Channel) (readback : BitVec 16)
  /-- The frame gap timer expires (R180). -/
  | frameGap
  /-- An input first leaves UNSETTLED; `pin` is the raw level of its pin (R142). -/
  | firstSettling (n : InputId) (pin : Bool)
  /-- Accepted edges (R143). -/
  | estopOkFalling
  | doorClosedFalling
  | leakRising
  | padPresentFalling
  | padPresentRising
  | diskPresentFalling
  | diskPresentRising
  | platenIndexRising
  | waferPresentFalling (h : Head)
  | inputEdge (e : QuietEdge)
  /-- Management requests, each in a MANAGEMENT frame received whole at port U (R184 to R189). -/
  | readState (block : Byte) (page : BitVec 16) (e : Envelope)
  | readEntry (table : Byte) (index : BitVec 16) (e : Envelope)
  | getParam (table : Byte) (id : BitVec 16) (e : Envelope)
  | writeEntryStep (h : Head) (index : BitVec 16) (e : Envelope)
  | writeEntryCoupling (h : Head) (index : BitVec 16) (e : Envelope)
  | writeEntryZone (h : Head) (index : BitVec 16) (e : Envelope)
  | writeEntrySegment (index : BitVec 16) (e : Envelope)
  | writeEntryProgram (index : BitVec 16) (e : Envelope)
  | writeEntryBlend (index : BitVec 16) (e : Envelope)
  | writeEntryChannel (index : BitVec 16) (e : Envelope)
  | writeEntrySlotmap (index : BitVec 16) (e : Envelope)
  | writeEntrySource (index : BitVec 16) (e : Envelope)
  | setParamStepCount (h : Head) (table : Byte) (e : Envelope)
  | setParamDmax (h : Head) (table : Byte) (e : Envelope)
  | setParamPadGain (h : Head) (table : Byte) (e : Envelope)
  | setParamRemovalK (h : Head) (table : Byte) (e : Envelope)
  | setParamSegmentCount (table : Byte) (e : Envelope)
  | setParamPadRefHeight (table : Byte) (e : Envelope)
  | setParamPadAgeLimit (table : Byte) (e : Envelope)
  | setParamAbrasiveRefFlow (table : Byte) (e : Envelope)
  | setParamReadbackStaleLimit (table : Byte) (e : Envelope)
  | setParamFrameGapLimit (table : Byte) (e : Envelope)
  | setParamDiRate (n : InputId) (table : Byte) (e : Envelope)
  | arm (table : Byte) (index : BitVec 16) (e : Envelope)
  | disarm (table : Byte) (index : BitVec 16) (e : Envelope)
  | setHoldPoint (table : Byte) (index : BitVec 16) (e : Envelope)
  | clearSources (table : Byte) (index : BitVec 16) (e : Envelope)
  | returnLevel (table : Byte) (index : BitVec 16) (e : Envelope)
  | resetRuntime (table : Byte) (index : BitVec 16) (e : Envelope)
  /-- The filter takes one sample of an input; `pin` is the raw level of its pin (R141). -/
  | inputSample (n : InputId) (pin : Bool)
deriving DecidableEq, Repr

end Sys2Proof
end

