-- ==== Sys2Proof/WellFormed.lean ====
section
/-! DEFINITION. Which terms of Instr stand for a command the part can be sent. Most operands are of a type
that holds only values the spec admits; a frame is a list of bytes, and that is where a check is needed. -/

namespace Sys2Proof

/-- Something arrives: a frame has at least one byte. -/
def frameNonempty (f : List Byte) : Bool := !f.isEmpty

/-- The frame kind byte marks a MANAGEMENT frame (section 10.11, header byte 0). -/
def frameIsManagement (f : List Byte) : Bool := f.head? == some 0x02#8

/-- Well-formedness of a command. The cycle frame rows carry a frame whose kind byte is not MANAGEMENT (a
corrupt frame among them, R169); the management row carries one whose kind byte is. -/
def Instr.wellFormed : Instr → Bool
  | .outboundCycleFrame f => frameNonempty f && !frameIsManagement f
  | .returnCycleFrame f => frameNonempty f && !frameIsManagement f
  | .managementFrameForward _ f => frameNonempty f && frameIsManagement f
  | .powerOnReset _ | .readbackAgeStale _ | .start _ _ _ | .hold _ _ _ | .resume _ _ _ | .stop _ _ _
  | .vent _ _ _ | .recover _ _ _ | .stepTimeExit _ | .stepCap _ | .startSweep _ | .stopSweep _ | .step _
  | .condTraverseTimeout | .dwellEnd | .intervalTrigger | .select _ _ | .release _ | .counterWrap _
  | .compareMatch _ | .trackPersistence _ _ _ | .flowPersistence _ _ | .frameGap | .firstSettling _ _
  | .estopOkFalling | .doorClosedFalling | .leakRising | .padPresentFalling | .padPresentRising
  | .diskPresentFalling | .diskPresentRising | .platenIndexRising | .waferPresentFalling _ | .inputEdge _
  | .readState _ _ _ | .readEntry _ _ _ | .getParam _ _ _ | .writeEntryStep _ _ _ | .writeEntryCoupling _ _ _
  | .writeEntryZone _ _ _ | .writeEntrySegment _ _ | .writeEntryProgram _ _ | .writeEntryBlend _ _
  | .writeEntryChannel _ _ | .writeEntrySlotmap _ _ | .writeEntrySource _ _ | .setParamStepCount _ _ _
  | .setParamDmax _ _ _ | .setParamPadGain _ _ _ | .setParamRemovalK _ _ _ | .setParamSegmentCount _ _
  | .setParamPadRefHeight _ _ | .setParamPadAgeLimit _ _ | .setParamAbrasiveRefFlow _ _
  | .setParamReadbackStaleLimit _ _ | .setParamFrameGapLimit _ _ | .setParamDiRate _ _ _ | .arm _ _ _
  | .disarm _ _ _ | .setHoldPoint _ _ _ | .clearSources _ _ _ | .returnLevel _ _ _ | .resetRuntime _ _ _
  | .inputSample _ _ => true

end Sys2Proof
end

