-- ==== Sys2Proof/Decode.lean ====
section
/-! DEFINITION. The command that a word spells by the opcode table's bits. No row of spec/opcode_table.json
gives bits ("fields": [] throughout), so no word spells a command (notes/assumptions/24.md). -/

namespace Sys2Proof

/-- The command whose table bits are `w`: none, for every word, because the table gives no row any bits. -/
def decodeTableWord (_nbits _w : Nat) : Option Instr := none

end Sys2Proof
end

