-- ==== Sys2Proof/Machine/State.lean ====
section
/-! DEFINITION. The part's state as plain data, block by block (00_scope section 2), and its value after
power-on reset (R191). Pressures, radii, counts and flows are Nat, signed quantities Int (00_scope 3.2). The
quantities the manual calls 16-bit and wrapping (cycle and sample numbers) and the 4-bit directive count are
bit vectors. -/

namespace Sys2Proof.Machine

/-! ### Recipe steps (section 1.1) -/

/-- What ends a step. -/
inductive ExitKind where
  | time | removal | endpoint | removalOrEndpoint
deriving DecidableEq, Repr

/-- What a cap does (R23). -/
inductive CapAction where
  | continue | abort
deriving DecidableEq, Repr

/-- The blend field of a step (R20). -/
inductive BlendField where
  | absent | release
  | index (n : Nat)
deriving DecidableEq, Repr

/-- The conditioning field of a step (R19). -/
inductive CondField where
  | absent | on | off
deriving DecidableEq, Repr

/-- The loop field of a step: repeat from `target` to this step, `count` times (R2). -/
structure LoopField where
  target : Nat
  count  : Nat
deriving DecidableEq, Repr

/-- One entry of a step table (section 1.1). -/
structure StepEntry where
  targets       : Vector Nat 8
  rates         : Vector Nat 8
  duration      : Nat
  exitKind      : ExitKind
  capAction     : CapAction
  removalTarget : Option Nat
  refZone       : Option (Fin 7)
  blend         : BlendField
  conditioning  : CondField
  loop          : Option LoopField
deriving DecidableEq, Repr

/-! ### Head sequencer, zone unit and removal estimator (chapters 1 to 3) -/

/-- The states of a head (section 1.2). -/
inductive HeadMode where
  | idle | ready | running | held | rampdown | complete | vented
deriving DecidableEq, Repr

/-- The end cause of a RAMPDOWN (R25). -/
inductive EndCause where
  | normal | stop | cap | fault
deriving DecidableEq, Repr

/-- The outcome of a taken directive (section 10.11). -/
inductive DirOutcome where
  | taken | ignoredState | refusedInterlock | refusedFault | summaryPending | badArgument
deriving DecidableEq, Repr

/-- The hold-cause set: FAULT carries a level (R15). -/
structure HoldCauses where
  directive : Bool
  holdPoint : Bool
  fault     : Option Nat
  blendWait : Bool
deriving DecidableEq, Repr

/-- The empty hold-cause set. -/
def HoldCauses.none : HoldCauses := ⟨false, false, Option.none, false⟩

/-- The wafer summary with the set of its parts carried so far (R27, R28). It is pending while a part is
missing from the set and carried when none is. -/
structure Summary where
  endCause        : Option EndCause
  stepsExecuted   : Nat
  cappedSteps     : Nat
  waferCycles     : Nat
  condUnavailable : Bool
  ringRange       : Bool
  removal         : Vector Nat 7
  range           : Vector Bool 7
  diff            : Vector Bool 7
  carried         : Vector Bool 8
deriving DecidableEq, Repr

/-- One entry of the zone configuration table (R31). -/
structure ZoneConf where
  lmin         : Nat
  lmax         : Nat
  release      : Nat
  rampRate     : Nat
  trackBand    : Nat
  trackPersist : Nat
  padRange     : Option (Nat × Nat)
deriving DecidableEq, Repr

/-- The state of one zone (R34). ZR never sets its diff flag, its pad deviation or its pad-stale mark. -/
structure ZoneState where
  target   : Nat
  rate     : Nat
  setpoint : Nat
  command  : Nat
  range    : Bool
  diff     : Bool
  track    : Nat
  dev      : Int
  stale    : Bool
deriving DecidableEq, Repr

/-- One head: its sequencer (R3), its zone computation unit (R31 to R34) and its removal estimator (R51). -/
structure HeadUnit where
  steps           : Vector (Option StepEntry) 64
  stepCount       : Nat
  mode            : HeadMode
  current         : Option Nat
  pendingStep     : Option Nat
  timer           : Nat
  loopCounter     : Nat
  causes          : HoldCauses
  ventLevel       : Nat
  summary         : Option Summary
  endCause        : Option EndCause
  endpoint        : Bool
  stepsExecuted   : Nat
  cappedSteps     : Nat
  waferCycles     : Nat
  condUnavailable : Bool
  dirCount        : Option (BitVec 4)
  outcome         : Option DirOutcome
  zoneConf        : Vector ZoneConf 8
  coupling        : Vector (Vector Int 7) 7
  dmax            : Nat
  padGain         : Int
  zones           : Vector ZoneState 8
  removalK        : Nat
  stepAcc         : Vector Nat 7
  waferAcc        : Vector Nat 7
  /-- The model's own: the current step was entered during the frame in hand (R21's third condition). -/
  fresh           : Bool
deriving DecidableEq, Repr

/-- One hold-point comparator (R16). -/
structure HoldPoint where
  enable : Bool
  head   : Head
  step   : Nat
deriving DecidableEq, Repr

/-! ### Shared sets and bodies -/

/-- A subset of {head A, head B, tool controller}: the demand set (R71) and the owner set (R108). -/
structure Parties where
  a  : Bool
  b  : Bool
  tc : Bool
deriving DecidableEq, Repr

/-- The empty set of parties. -/
def Parties.empty : Parties := ⟨false, false, false⟩

/-- A party that may ask for conditioning or hold a blend. -/
inductive Party where
  | head (h : Head)
  | tc
deriving DecidableEq, Repr

/-! ### Conditioner (chapters 4 and 5) -/

/-- One entry of the segment table (R67). -/
structure Segment where
  startRadius : Nat
  endRadius   : Nat
  dwell       : Nat
  downForce   : Nat
  diskSpeed   : Nat
deriving DecidableEq, Repr

/-- The mode of the sweep program (R68). -/
inductive SweepMode where
  | single | singleRestart | continuous | stepped
deriving DecidableEq, Repr

/-- The report mode of the sweep program (R98). -/
inductive ReportMode where
  | protect | overwrite
deriving DecidableEq, Repr

/-- The sweep program (R68). -/
structure Program where
  startSeg        : Nat
  endSeg          : Nat
  mode            : SweepMode
  trigDirective   : Bool
  trigPlatenIndex : Bool
  trigInterval    : Bool
  interval        : Nat
  parkRadius      : Nat
  tolerance       : Nat
  traverseLimit   : Nat
  report          : ReportMode
deriving DecidableEq, Repr

/-- The states of the conditioner (section 4.3). -/
inductive CondMode where
  | parked | traverse | sweeping | stepWait | reportHold | lifting
deriving DecidableEq, Repr

/-- The destination the end of a dwell has chosen (R69, R81). -/
inductive Continuation where
  | none
  | traverse (seg : Nat)
  | stepWait (seg : Nat)
  | lifting
deriving DecidableEq, Repr

/-- The edge the arm is heading for in SWEEPING (R69). -/
inductive Leg where
  | toEnd | toStart
deriving DecidableEq, Repr

/-- An arm command (R76). -/
structure ArmCommand where
  radius : Nat
  force  : Nat
  speed  : Nat
deriving DecidableEq, Repr

/-- A valid pad profile entry (R94). -/
structure PadEntry where
  height : Nat
  age    : Nat
deriving DecidableEq, Repr

/-- A pad sample (section 5.1). -/
structure PadSample where
  segment : Nat
  height  : Nat
  seq     : BitVec 16
  cycle   : BitVec 16
deriving DecidableEq, Repr

/-- The conditioner sweep controller (R67 to R69, R93, R94, R98, R102). -/
structure Conditioner where
  segments      : Vector (Option Segment) 32
  segCount      : Nat
  program       : Option Program
  mode          : CondMode
  demand        : Parties
  startReq      : Bool
  current       : Option Nat
  cont          : Continuation
  leg           : Option Leg
  dwell         : Nat
  traverse      : Nat
  timeoutMark   : Bool
  interval      : Nat
  lastCmd       : Option ArmCommand
  dirCount      : Option (BitVec 4)
  outcome       : Option DirOutcome
  profile       : Vector (Option PadEntry) 32
  pendingSample : Option PadSample
  stagedSample  : Option PadSample
  seq           : BitVec 16
  padRef        : Nat
  padAgeLimit   : Nat
  /-- The model's own: the present state was entered during the frame in hand (R75, step 2). -/
  fresh         : Bool
deriving DecidableEq, Repr

/-! ### Slurry controller and pulse unit (chapters 6 and 7) -/

/-- One entry of the blend table (R105). -/
structure Blend where
  total  : Nat
  ratios : Vector Nat 4
deriving DecidableEq, Repr

/-- One CHANNEL entry: the slurry fields (R106) and the pulse fields (R126). -/
structure ChannelConf where
  abrasive    : Bool
  delay       : Nat
  fullScale   : Nat
  flowCheck   : Bool
  flowBand    : Nat
  flowPersist : Nat
  enable      : Bool
  prescale    : Nat
  resolution  : Nat
  activeHigh  : Bool
deriving DecidableEq, Repr

/-- The flow state of one channel (R108). The delay line is oldest first (R119). -/
structure ChannelFlow where
  q       : Nat
  line    : List Nat
  arrived : Nat
  limited : Bool
  dev     : Nat
deriving DecidableEq, Repr

/-- The slurry blend controller (R105 to R108). -/
structure Slurry where
  blends      : Vector (Option Blend) 16
  channels    : Vector ChannelConf 4
  abrasiveRef : Nat
  blend       : Option Nat
  owners      : Parties
  waitA       : Option Nat
  waitB       : Option Nat
  undecA      : Option Nat
  undecB      : Option Nat
  flows       : Vector ChannelFlow 4
  presence    : Nat
  dirCount    : Option (BitVec 4)
  outcome     : Option DirOutcome
deriving DecidableEq, Repr

/-- One pulse channel (R127). `phase` counts the µs since the counter last advanced. -/
structure PulseChannel where
  running : Bool
  first   : Bool
  counter : Nat
  phase   : Nat
  buffer  : Nat
  compare : Nat
  active  : Bool
deriving DecidableEq, Repr

/-- The dispense pulse unit (R127). -/
structure Pulse where
  supply : Bool
  ch     : Vector PulseChannel 4
deriving DecidableEq, Repr

/-! ### Discrete inputs (chapter 8) -/

/-- The sampling rate of an input (R140). -/
inductive DiRate where
  | off | us10 | us100 | us1000
deriving DecidableEq, Repr

/-- One discrete input (R139): samples and accepted level are asserted (true) or deasserted (false), and
UNSETTLED is none. `timer` counts the µs since the last sample; `pin` is the raw level of the pin. -/
structure Input where
  rate     : DiRate
  history  : List Bool
  accepted : Option Bool
  timer    : Nat
  pin      : Bool
deriving DecidableEq, Repr

/-! ### Fault response arbiter (chapter 9) -/

/-- A fault source by its index (R148). -/
abbrev SourceId := Fin 22

/-- The reactions (R148). -/
inductive Reaction where
  | notify | hold | retract | vent
deriving DecidableEq, Repr

/-- The state of one source (R148). -/
structure SourceState where
  status   : Bool
  enable   : Bool
  level    : Nat
  reaction : Reaction
deriving DecidableEq, Repr

/-- A response: the current one, or one recorded in the stack (R153, R154). -/
structure Response where
  level    : Nat
  source   : SourceId
  reaction : Reaction
deriving DecidableEq, Repr

/-- The fault response arbiter. The current response is none exactly when the response level is 0 (R153). The
stack is kept top first. -/
structure Arbiter where
  sources : Vector SourceState 22
  current : Option Response
  stack   : List Response
deriving DecidableEq, Repr

/-! ### Ring interface (chapter 10) -/

/-- What a slot map entry binds (section 10.11). -/
inductive Binding where
  | zoneCommand (h : Head) (z : Zone)
  | condCommand
  | readback (k : ReadbackId)
deriving DecidableEq, Repr

/-- A non-empty slot map entry (R173). -/
structure SlotEntry where
  binding : Binding
  node    : Byte
  kind    : Byte
deriving DecidableEq, Repr

/-- One entry of the readback store: a value as carried, a second one for the conditioner (gauge height), the
taken marker and the age (R175). -/
structure Readback where
  value  : Nat
  second : Nat
  taken  : Bool
  age    : Nat
deriving DecidableEq, Repr

/-- The frame gap timer (R180). -/
inductive GapTimer where
  | unarmed
  | running (count : Nat)
  | expired
deriving DecidableEq, Repr

/-- What the rules read at the moment a frame arrives, whenever it is handled: the last taken number (R172) with
the advance of that frame, the states of the heads (R21, R27, R49, R54) and of the conditioner (R75, R78). -/
structure Arrival where
  last    : Option (BitVec 16)
  advance : Nat
  modeA   : HeadMode
  modeB   : HeadMode
  cond    : CondMode
deriving DecidableEq, Repr

/-- A frame received and not yet handled, with the moment of its arrival (R167). -/
structure HeldFrame where
  frame   : List Byte
  arrival : Arrival
deriving DecidableEq, Repr

/-- The ring interface. `heldU` and `heldD` are the frames received in each direction and not yet handled,
oldest first (R167). `outD` and `outU` are the model's record of the last frame forwarded at each port. -/
structure Ring where
  last       : Option (BitVec 16)
  advance    : Nat
  slotMap    : Vector (Option SlotEntry) 48
  store      : Vector Readback 23
  staleLimit : Nat
  gapLimit   : Nat
  gap        : GapTimer
  heldU      : List HeldFrame
  heldD      : List HeldFrame
  outU       : Option (List Byte)
  outD       : Option (List Byte)
deriving DecidableEq, Repr

/-! ### The order of the blocks within one frame -/

/-- What the blocks do on a taken outbound frame, in pieces whose order the manual leaves open where it says
"either order may occur" (R75, R96, R161). -/
inductive OutTask where
  /-- directive, endpoint flag and step exit of a head (R7, R21) -/
  | head (h : Head)
  /-- delivery to a head of the reactions its own handling provoked (R161) -/
  | react (h : Head)
  /-- zone computation of a head (R36) -/
  | zone (h : Head)
  /-- the conditioner's outbound pass (R75) -/
  | cond
  /-- the slurry controller's outbound pass (R117) -/
  | slurry
deriving DecidableEq, Repr

/-- What the blocks do on a return frame (R91, R125, R165, R179). -/
inductive RetTask where
  | track (h : Head) | removal (h : Head) | arrival | flow
  | fillStatus (h : Head) | fillSummary (h : Head) | fillCond | carryCond | fillSlurry | fillPart
deriving DecidableEq, Repr

/-- A reaction taken while a head was in its own handling of a frame and not yet handed to it (R161). -/
structure Due where
  head     : Head
  reaction : Reaction
  level    : Nat
deriving DecidableEq, Repr

/-! ### The whole part -/

/-- The state of the part. `pending` is the queue of commands that wait, first in first out. `due`,
`outOrders`, `retOrders` and `free` are the model's own: the reactions of R161 not yet delivered, the orders
that the next frames' block tasks take, and the count of free values used. -/
structure State where
  pending    : List Instr
  address    : BitVec 6
  ring       : Ring
  headA      : HeadUnit
  headB      : HeadUnit
  holdPoints : Vector HoldPoint 2
  cond       : Conditioner
  slurry     : Slurry
  pulse      : Pulse
  inputs     : Vector Input 8
  faults     : Arbiter
  due        : List Due
  outOrders  : List (List OutTask)
  retOrders  : List (List RetTask)
  free       : Nat
deriving DecidableEq, Repr

/-- No command of this block faults: every command has an effect, in every state, by the rules of spec/
(notes/assumptions/26.md). Nobody raises a fault; safe. -/
inductive Fault where
deriving DecidableEq, Repr

/-- Refusals. -/
inductive Refusal where
  /-- A command that has no meaning yet: raised by exec's arm of that row, naming it; safe. No arm raises it. -/
  | notModelled (mnemonic : String)
deriving DecidableEq, Repr

/-! ### Reset values -/

/-- A zone configuration entry after power-on reset (R31). -/
def ZoneConf.reset : ZoneConf := ⟨0, 0, 0, 200, 300, 50, none⟩

/-- A zone's state after either reset, with the zone's ramp-down rate as its rate in force (R34). -/
def ZoneState.reset (rampRate : Nat) : ZoneState := ⟨0, rampRate, 0, 0, false, false, 0, 0, false⟩

/-- A head after power-on reset (R3, R31 to R34, R52, R53). -/
def HeadUnit.reset : HeadUnit where
  steps := Vector.replicate 64 none
  stepCount := 0
  mode := .idle
  current := none
  pendingStep := none
  timer := 0
  loopCounter := 0
  causes := .none
  ventLevel := 0
  summary := none
  endCause := none
  endpoint := false
  stepsExecuted := 0
  cappedSteps := 0
  waferCycles := 0
  condUnavailable := false
  dirCount := none
  outcome := none
  zoneConf := Vector.replicate 8 .reset
  coupling := Vector.replicate 7 (Vector.replicate 7 0)
  dmax := 12000
  padGain := 0
  zones := Vector.replicate 8 (.reset 200)
  removalK := 0
  stepAcc := Vector.replicate 7 0
  waferAcc := Vector.replicate 7 0
  fresh := false

/-- A comparator after either reset (R16). -/
def HoldPoint.reset : HoldPoint := ⟨false, .a, 0⟩

/-- The conditioner after power-on reset (R67 to R69, R93, R94, R100, R102). -/
def Conditioner.reset : Conditioner where
  segments := Vector.replicate 32 none
  segCount := 0
  program := none
  mode := .parked
  demand := .empty
  startReq := false
  current := none
  cont := .none
  leg := none
  dwell := 0
  traverse := 0
  timeoutMark := false
  interval := 0
  lastCmd := none
  dirCount := none
  outcome := none
  profile := Vector.replicate 32 none
  pendingSample := none
  stagedSample := none
  seq := 0
  padRef := 0
  padAgeLimit := 60000
  fresh := false

/-- A CHANNEL entry after power-on reset (R106, R126). -/
def ChannelConf.reset : ChannelConf := ⟨false, 0, 1000, true, 20, 200, false, 1, 10, true⟩

/-- A channel's flow state after a reset that leaves it `delay` cycles of zero flow (R108, R120). -/
def ChannelFlow.reset (delay : Nat) : ChannelFlow := ⟨0, List.replicate delay 0, 0, false, 0⟩

/-- The slurry controller after power-on reset (R105 to R108). -/
def Slurry.reset : Slurry where
  blends := Vector.replicate 16 none
  channels := Vector.replicate 4 .reset
  abrasiveRef := 100
  blend := none
  owners := .empty
  waitA := none
  waitB := none
  undecA := none
  undecB := none
  flows := Vector.replicate 4 (.reset 0)
  presence := 0
  dirCount := none
  outcome := none

/-- A pulse channel after either reset (R127). -/
def PulseChannel.reset : PulseChannel := ⟨false, false, 0, 0, 0, 0, false⟩

/-- The pulse unit after either reset (R127). -/
def Pulse.reset : Pulse := ⟨false, Vector.replicate 4 .reset⟩

/-- An input after power-on reset, with the level its pin has (R140, R142). -/
def Input.reset (pin : Bool) : Input := ⟨.us100, [], none, 0, pin⟩

/-- The sources after power-on reset, in index order (R148). -/
def Arbiter.resetSources : Vector SourceState 22 :=
  #v[⟨false, true, 7, .vent⟩, ⟨false, true, 7, .vent⟩, ⟨false, true, 6, .retract⟩, ⟨false, true, 5, .vent⟩,
     ⟨false, true, 6, .vent⟩, ⟨false, true, 6, .vent⟩, ⟨false, true, 4, .hold⟩, ⟨false, true, 4, .hold⟩,
     ⟨false, true, 4, .hold⟩, ⟨false, true, 4, .hold⟩, ⟨false, true, 4, .hold⟩, ⟨false, true, 4, .hold⟩,
     ⟨false, true, 4, .hold⟩, ⟨false, true, 4, .hold⟩, ⟨false, true, 4, .hold⟩, ⟨false, true, 3, .hold⟩,
     ⟨false, true, 1, .notify⟩, ⟨false, true, 1, .notify⟩, ⟨false, true, 1, .notify⟩, ⟨false, true, 1, .notify⟩,
     ⟨false, true, 1, .notify⟩, ⟨false, true, 1, .notify⟩]

/-- The arbiter after power-on reset (R164). -/
def Arbiter.reset : Arbiter := ⟨Arbiter.resetSources, none, []⟩

/-- The ring interface after power-on reset (R170, R173, R175, R176, R180). DESIGN CHOICE: the places of R167 and
the record of what left are empty; the manual gives them no reset value (notes/assumptions/36.md). -/
def Ring.reset : Ring where
  last := none
  advance := 0
  slotMap := Vector.replicate 48 none
  store := Vector.replicate 23 ⟨0, 0, false, 0⟩
  staleLimit := 20
  gapLimit := 5000
  gap := .unarmed
  heldU := []
  heldD := []
  outU := none
  outD := none

/-- The part after power-on reset with the given straps and raw input pins (R191). -/
def State.resetWith (straps : BitVec 6) (pins : Vector Bool 8) : State where
  pending := []
  address := straps
  ring := .reset
  headA := .reset
  headB := .reset
  holdPoints := Vector.replicate 2 .reset
  cond := .reset
  slurry := .reset
  pulse := .reset
  inputs := Vector.ofFn fun n => .reset pins[n]
  faults := .reset
  due := []
  outOrders := []
  retOrders := []
  free := 0

/-- The part right after power-on reset. DESIGN CHOICE (unsafe): the straps read 1 (notes/assumptions/2.md)
and every input pin is low (notes/assumptions/3.md); the manual gives neither. -/
def State.reset : State := State.resetWith 1 (Vector.replicate 8 false)

/-! ### Updates: every operation reaches the state through these -/

namespace State

/-- The unit of a head. -/
def head (s : State) : Head → HeadUnit
  | .a => s.headA
  | .b => s.headB

/-- Replace the unit of a head. -/
def setHead (s : State) : Head → HeadUnit → State
  | .a, x => { s with headA := x }
  | .b, x => { s with headB := x }

/-- Change the unit of a head. -/
def modHead (s : State) (h : Head) (f : HeadUnit → HeadUnit) : State := s.setHead h (f (s.head h))

/-- Replace the conditioner. -/
def setCond (s : State) (x : Conditioner) : State := { s with cond := x }
/-- Replace the slurry controller. -/
def setSlurry (s : State) (x : Slurry) : State := { s with slurry := x }
/-- Replace the pulse unit. -/
def setPulse (s : State) (x : Pulse) : State := { s with pulse := x }
/-- Replace the arbiter. -/
def setFaults (s : State) (x : Arbiter) : State := { s with faults := x }
/-- Replace the ring interface. -/
def setRing (s : State) (x : Ring) : State := { s with ring := x }
/-- Replace one discrete input. -/
def setInput (s : State) (n : InputId) (x : Input) : State := { s with inputs := s.inputs.set n x }
/-- Replace the reactions not yet delivered. -/
def setDue (s : State) (x : List Due) : State := { s with due := x }
/-- Replace the hold-point comparators. -/
def setHoldPoints (s : State) (x : Vector HoldPoint 2) : State := { s with holdPoints := x }

end State

end Sys2Proof.Machine
end

