-- ==== Sys2Proof/Machine/Operands.lean ====
section
/-! DEFINITION. How commands carry their operands: byte order, the CRC, the frame checks, slots, and the
binding codes of the slot map (R168, R169, R174, R183). -/

namespace Sys2Proof.Machine

/-! ### Bytes (R183: least significant byte first, two's complement) -/

/-- Byte `i` of a list of bytes as a number. -/
def byteAt (d : List Byte) (i : Nat) : Nat := (d.getD i 0).toNat

/-- The two-byte field at `i`. -/
def le16 (d : List Byte) (i : Nat) : Nat := byteAt d i + 256 * byteAt d (i + 1)

/-- The four-byte field at `i`. -/
def le32 (d : List Byte) (i : Nat) : Nat := le16 d i + 65536 * le16 d (i + 2)

/-- The low byte of a number. -/
def toByte (n : Nat) : Byte := BitVec.ofNat 8 n

/-- A number as `k` bytes. -/
def putLE : Nat → Nat → List Byte
  | 0, _ => []
  | k + 1, n => toByte n :: putLE k (n / 256)

/-- A number as two bytes. -/
def put16 (n : Nat) : List Byte := putLE 2 n

/-- A signed number as `k` bytes. -/
def putSigned (k : Nat) (x : Int) : List Byte := putLE k (x % (2 ^ (8 * k) : Nat)).toNat

/-- The signed value of a field of `bits` bits. -/
def signedOf (bits n : Nat) : Int := if n < 2 ^ (bits - 1) then (n : Int) else (n : Int) - (2 ^ bits : Nat)

/-- Bit `i` of a number. -/
def bitAt (n i : Nat) : Bool := n.testBit i

/-- A Bool as bit `i`. -/
def asBit (b : Bool) (i : Nat) : Nat := if b then 2 ^ i else 0

/-- A list filled with zeros, or cut, to `n` bytes. -/
def padTo (n : Nat) (l : List Byte) : List Byte := (l ++ List.replicate n 0).take n

/-! ### The CRC (R168) -/

/-- One bit through the reflected register; 0xEDB88320 is the generator 0x04C11DB7 in reflected order. -/
def crcBit (r : BitVec 32) : BitVec 32 :=
  if r.getLsbD 0 then (r >>> 1) ^^^ 0xEDB88320#32 else r >>> 1

/-- One byte through the register, least significant bit first. -/
def crcByte (r : BitVec 32) (b : Byte) : BitVec 32 :=
  let r := r ^^^ b.setWidth 32
  crcBit (crcBit (crcBit (crcBit (crcBit (crcBit (crcBit (crcBit r)))))))

/-- The CRC of a list of bytes. -/
def crc32 (f : List Byte) : BitVec 32 := ~~~(f.foldl crcByte 0xFFFFFFFF#32)

/-- A list of bytes with its CRC behind it. -/
def withCrc (body : List Byte) : List Byte := body ++ putLE 4 (crc32 body).toNat

/-- A list of bytes with the bitwise complement of its CRC behind it (R169). -/
def withBadCrc (body : List Byte) : List Byte := body ++ putLE 4 (~~~(crc32 body)).toNat

/-! ### Frames (R168, R169, section 10.11) -/

/-- The bytes of a frame ahead of its CRC field. -/
def frameBody (f : List Byte) : List Byte := f.take (f.length - 4)

/-- The frame kind byte. -/
def frameKind (f : List Byte) : Nat := byteAt f 0

/-- The cycle number of a frame's header. -/
def frameCycle (f : List Byte) : BitVec 16 := BitVec.ofNat 16 (le16 f 2)

/-- The slot count of a frame's header. -/
def frameSlotCount (f : List Byte) : Nat := byteAt f 4

/-- Check 3's length rule for each frame kind, and check 4 (R168). -/
def frameSizeOk (f : List Byte) : Bool :=
  le16 f 6 == f.length &&
    ((frameKind f == 1 && f.length == 12 + 16 * frameSlotCount f) ||
     (frameKind f == 2 && f.length == 76 && frameSlotCount f == 0))

/-- A frame is valid when none of the checks of R168 makes it corrupt. -/
def frameValid (f : List Byte) : Bool :=
  decide (12 ≤ f.length) && decide (f.length ≤ 1024) &&
    (f == withCrc (frameBody f)) && frameSizeOk f

/-- What is forwarded of a corrupt frame (R169). A frame of fewer than four bytes has no CRC field, and the
manual does not say what is forwarded: a free value. -/
def forcedBad (f : List Byte) : List Byte :=
  if 1024 < f.length then withBadCrc (f.take 1020)
  else if 4 ≤ f.length then withBadCrc (frameBody f)
  else Config.freeShortFrame f

/-! ### Slots (R174, R183) -/

/-- The slots of a cycle frame, in frame order. -/
def frameSlots (f : List Byte) : List (List Byte) :=
  (List.range (frameSlotCount f)).map fun i => (f.drop (8 + 16 * i)).take 16

/-- The node address of a slot. -/
def slotNode (x : List Byte) : Byte := x.getD 0 0
/-- The kind of a slot. -/
def slotKind (x : List Byte) : Byte := x.getD 1 0
/-- The index byte of a slot. -/
def slotIndex (x : List Byte) : Nat := byteAt x 2
/-- The payload of a slot. -/
def slotPayload (x : List Byte) : List Byte := x.drop 4
/-- A slot with its twelve payload bytes replaced; bytes the layout does not name are zero. -/
def setPayload (p : List Byte) (x : List Byte) : List Byte := x.take 4 ++ padTo 12 p

/-- Change the first element that satisfies `p`. -/
def mapFirst {α : Type} (p : α → Bool) (g : α → α) : List α → List α
  | [] => []
  | x :: xs => if p x then g x :: xs else x :: mapFirst p g xs

/-- The cycle frame with the header of `f`, the given flags byte and slots, and a computed CRC. -/
def rebuildFrame (f : List Byte) (flags : Byte) (slots : List (List Byte)) : List Byte :=
  withCrc ([f.getD 0 0, flags] ++ (f.drop 2).take 6 ++ slots.flatten)

/-- The flags byte of a frame with MATCHED set or cleared (R172). -/
def setMatched (f : List Byte) (m : Bool) : Byte :=
  let flags : Byte := f.getD 1 0
  if m then flags ||| 1#8 else flags &&& 0xFE#8

/-- The part's own slot kinds (section 10.11). -/
def kindHeadDirective : Byte := 0x01
def kindCondDirective : Byte := 0x02
def kindSlurryDirective : Byte := 0x03
def kindHeadStatus : Byte := 0x09
def kindHeadSummary : Byte := 0x0A
def kindCondReport : Byte := 0x0B
def kindSlurryReport : Byte := 0x0C
def kindPartStatus : Byte := 0x0D

/-! ### Bindings (section 10.11) -/

/-- The head with index 0 or 1. -/
def headOf : Nat → Option Head
  | 0 => some .a
  | 1 => some .b
  | _ => none

/-- The index of a head. -/
def headIndex : Head → Nat
  | .a => 0
  | .b => 1

/-- The binding of a code, where the table has one. -/
def Binding.ofCode (c : Nat) : Option Binding :=
  if h : 1 ≤ c ∧ c ≤ 8 then some (.zoneCommand .a ⟨c - 1, by omega⟩)
  else if h : 9 ≤ c ∧ c ≤ 16 then some (.readback (.zone .a ⟨c - 9, by omega⟩))
  else if c = 17 then some (.readback (.velocity .a))
  else if h : 18 ≤ c ∧ c ≤ 25 then some (.zoneCommand .b ⟨c - 18, by omega⟩)
  else if h : 26 ≤ c ∧ c ≤ 33 then some (.readback (.zone .b ⟨c - 26, by omega⟩))
  else if c = 34 then some (.readback (.velocity .b))
  else if c = 35 then some .condCommand
  else if c = 36 then some (.readback .conditioner)
  else if h : 37 ≤ c ∧ c ≤ 40 then some (.readback (.flow ⟨c - 37, by omega⟩))
  else none

/-- The code of a binding. -/
def Binding.code : Binding → Nat
  | .zoneCommand .a z => 1 + z.val
  | .readback (.zone .a z) => 9 + z.val
  | .readback (.velocity .a) => 17
  | .zoneCommand .b z => 18 + z.val
  | .readback (.zone .b z) => 26 + z.val
  | .readback (.velocity .b) => 34
  | .condCommand => 35
  | .readback .conditioner => 36
  | .readback (.flow c) => 37 + c.val

/-- The place of a readback binding in the readback store. -/
def rbIndex : ReadbackId → Fin 23
  | .zone .a z => ⟨z.val, by omega⟩
  | .velocity .a => 8
  | .zone .b z => ⟨9 + z.val, by omega⟩
  | .velocity .b => 17
  | .conditioner => 18
  | .flow c => ⟨19 + c.val, by omega⟩

/-- The eight zones, Z1 first. -/
def allZones : List Zone := [0, 1, 2, 3, 4, 5, 6, 7]
/-- The four channels. -/
def allChannels : List Channel := [0, 1, 2, 3]
/-- The eight inputs, DI0 first. -/
def allInputs : List InputId := [0, 1, 2, 3, 4, 5, 6, 7]
/-- The 22 sources, in index order. -/
def allSources : List SourceId :=
  [0, 1, 2, 3, 4, 5, 6, 7, 8, 9, 10, 11, 12, 13, 14, 15, 16, 17, 18, 19, 20, 21]

/-- The 23 readback bindings, in the order of their codes. -/
def allReadbacks : List ReadbackId :=
  allZones.map (.zone .a) ++ [.velocity .a] ++ allZones.map (.zone .b) ++
    [.velocity .b, .conditioner] ++ allChannels.map .flow

/-- The slot map entry that binds `b`, where one does (R173 admits at most one). -/
def slotFor (r : Ring) (b : Binding) : Option SlotEntry :=
  (r.slotMap.toList.filterMap id).find? fun e => e.binding == b

/-- A slot matches an entry by node address and slot kind alone (R174). -/
def slotMatches (e : SlotEntry) (x : List Byte) : Bool := slotNode x == e.node && slotKind x == e.kind

/-- The payload of the first slot of a frame that matches the binding (R174). -/
def boundPayload (r : Ring) (b : Binding) (slots : List (List Byte)) : Option (List Byte) :=
  match slotFor r b with
  | none => none
  | some e => (slots.find? (slotMatches e)).map slotPayload

/-- Write a command payload into the first slot that matches the binding (R174). -/
def writeBound (r : Ring) (b : Binding) (p : List Byte) (slots : List (List Byte)) : List (List Byte) :=
  match slotFor r b with
  | none => slots
  | some e => mapFirst (slotMatches e) (setPayload p) slots

/-- The slot map binds the command of each of the head's eight zones (R4, R8). -/
def zonesBound (r : Ring) (h : Head) : Bool := allZones.all fun z => (slotFor r (.zoneCommand h z)).isSome

/-! ### The part's address (R181) -/

/-- An address of 0 or 63 puts the part in pass-through. -/
def passThrough (s : State) : Bool := s.address == 0#6 || s.address == 63#6

/-- The part's own address as a byte. -/
def ownByte (s : State) : Byte := s.address.setWidth 8

/-- The first slot addressed to the part with the given kind. -/
def ownSlot (s : State) (kind : Byte) (slots : List (List Byte)) : Option (List Byte) :=
  slots.find? fun x => slotNode x == ownByte s && slotKind x == kind

/-- The first HEAD_DIRECTIVE slot addressed to the part with the head's index (R177). -/
def ownHeadSlot (s : State) (h : Head) (slots : List (List Byte)) : Option (List Byte) :=
  slots.find? fun x => slotNode x == ownByte s && slotKind x == kindHeadDirective && slotIndex x == headIndex h

end Sys2Proof.Machine
end

