-- ==== Sys2Proof/Machine/Formats.lean ====
section
/-! DEFINITION. The codes and the table entry layouts of section 10.11, with each field's range: what a
WRITE_ENTRY accepts and what a READ_ENTRY answers (R1, R31, R32, R67, R68, R105, R106, R126, R151, R173). -/

namespace Sys2Proof.Machine

/-! ### Codes (section 10.11) -/

def HeadMode.code : HeadMode → Nat
  | .idle => 0 | .ready => 1 | .running => 2 | .held => 3 | .rampdown => 4 | .complete => 5 | .vented => 6

def endCauseCode : Option EndCause → Nat
  | none => 0 | some .normal => 1 | some .stop => 2 | some .cap => 3 | some .fault => 4

def outcomeCode : Option DirOutcome → Nat
  | none => 0 | some .taken => 1 | some .ignoredState => 2 | some .refusedInterlock => 3
  | some .refusedFault => 4 | some .summaryPending => 5 | some .badArgument => 6

def Reaction.code : Reaction → Nat
  | .notify => 1 | .hold => 2 | .retract => 3 | .vent => 4

def Reaction.ofCode : Nat → Option Reaction
  | 1 => some .notify | 2 => some .hold | 3 => some .retract | 4 => some .vent | _ => none

def CondMode.code : CondMode → Nat
  | .parked => 0 | .traverse => 1 | .sweeping => 2 | .stepWait => 3 | .reportHold => 4 | .lifting => 5

def legCode : Option Leg → Nat
  | none => 0 | some .toEnd => 1 | some .toStart => 2

def Continuation.code : Continuation → Nat
  | .none => 0 | .traverse _ => 1 | .stepWait _ => 2 | .lifting => 3

/-- A step, segment, blend or source number in one byte, 0xFF for none. -/
def orNone (x : Option Nat) : Nat := x.getD 0xFF

def Continuation.segment : Continuation → Option Nat
  | .none | .lifting => Option.none
  | .traverse k | .stepWait k => some k

def Parties.code (p : Parties) : Nat := asBit p.a 0 + asBit p.b 1 + asBit p.tc 2

def DiRate.code : DiRate → Nat
  | .off => 0 | .us10 => 1 | .us100 => 2 | .us1000 => 3

def DiRate.ofCode : Nat → Option DiRate
  | 0 => some .off | 1 => some .us10 | 2 => some .us100 | 3 => some .us1000 | _ => none

/-- An accepted level as READ_STATE answers it. -/
def acceptedCode : Option Bool → Nat
  | some false => 0 | some true => 1 | none => 2

def prescaleCode : Nat → Nat
  | 1 => 0 | 2 => 1 | 4 => 2 | 8 => 3 | 16 => 4 | _ => 5

def prescaleOf : Nat → Nat
  | 0 => 1 | 1 => 2 | 2 => 4 | 3 => 8 | 4 => 16 | _ => 32

def resolutionCode : Nat → Nat
  | 8 => 0 | 9 => 1 | 10 => 2 | _ => 3

def resolutionOf : Nat → Nat
  | 0 => 8 | 1 => 9 | 2 => 10 | _ => 12

/-- A range check, inclusive at both ends (00_scope 3.2). -/
def within (lo hi x : Nat) : Bool := decide (lo ≤ x) && decide (x ≤ hi)

/-! ### STEP (R1, R2) -/

def exitKindOf : Nat → ExitKind
  | 0 => .time | 1 => .removal | 2 => .endpoint | _ => .removalOrEndpoint

def ExitKind.code : ExitKind → Nat
  | .time => 0 | .removal => 1 | .endpoint => 2 | .removalOrEndpoint => 3

def capActionOf : Nat → CapAction
  | 0 => .continue | _ => .abort

def CapAction.code : CapAction → Nat
  | .continue => 0 | .abort => 1

def blendFieldOf (n : Nat) : BlendField :=
  if n = 0xFF then .absent else if n = 0xFE then .release else .index n

def BlendField.code : BlendField → Nat
  | .absent => 0xFF | .release => 0xFE | .index n => n

def condFieldOf : Nat → CondField
  | 0 => .absent | 1 => .on | _ => .off

def CondField.code : CondField → Nat
  | .absent => 0 | .on => 1 | .off => 2

/-- The reference zone of its byte: 0 is absent, 1 to 7 are Z1 to Z7. -/
def refZoneOf (n : Nat) : Option (Fin 7) := if h : 1 ≤ n ∧ n ≤ 7 then some ⟨n - 1, by omega⟩ else none

/-- Every field of a step record lies within its range (R1). An absent loop's target byte is not a field. -/
def stepDataOk (d : List Byte) : Bool :=
  allZones.all (fun z => within 0 12000 (le16 d (2 * z.val)) && within 1 2000 (le16 d (16 + 2 * z.val))) &&
  within 1 1000000 (le32 d 32) && within 0 3 (byteAt d 36) && within 0 1 (byteAt d 37) &&
  within 0 1000000 (le32 d 38) && within 0 7 (byteAt d 42) &&
  (within 0 15 (byteAt d 43) || byteAt d 43 == 0xFE || byteAt d 43 == 0xFF) && within 0 2 (byteAt d 44) &&
  within 0 250 (byteAt d 46) && (byteAt d 46 == 0 || within 0 63 (byteAt d 45))

def stepOfData (d : List Byte) : StepEntry where
  targets := Vector.ofFn fun z => le16 d (2 * z.val)
  rates := Vector.ofFn fun z => le16 d (16 + 2 * z.val)
  duration := le32 d 32
  exitKind := exitKindOf (byteAt d 36)
  capAction := capActionOf (byteAt d 37)
  removalTarget := if le32 d 38 = 0 then none else some (le32 d 38)
  refZone := refZoneOf (byteAt d 42)
  blend := blendFieldOf (byteAt d 43)
  conditioning := condFieldOf (byteAt d 44)
  loop := if byteAt d 46 = 0 then none else some ⟨byteAt d 45, byteAt d 46⟩

def stepLength : Nat := 47

def stepData (e : StepEntry) : List Byte :=
  e.targets.toList.flatMap put16 ++ e.rates.toList.flatMap put16 ++ putLE 4 e.duration ++
  [toByte e.exitKind.code, toByte e.capAction.code] ++ putLE 4 (e.removalTarget.getD 0) ++
  [toByte ((e.refZone.map fun z => z.val + 1).getD 0), toByte e.blend.code, toByte e.conditioning.code,
   toByte ((e.loop.map (·.target)).getD 0), toByte ((e.loop.map (·.count)).getD 0)]

/-! ### COUPLING (R32) -/

def couplingCoeff (d : List Byte) (j : Nat) : Int := signedOf 16 (le16 d (2 * j))

/-- Coefficients in range, and a zero diagonal. -/
def couplingDataOk (row : Nat) (d : List Byte) : Bool :=
  [0, 1, 2, 3, 4, 5, 6].all fun j =>
    decide (-1024 ≤ couplingCoeff d j) && decide (couplingCoeff d j ≤ 1024) &&
      (j != row || couplingCoeff d j == 0)

def couplingOfData (d : List Byte) : Vector Int 7 := Vector.ofFn fun j => couplingCoeff d j.val

def couplingLength : Nat := 14

def couplingData (row : Vector Int 7) : List Byte := row.toList.flatMap (putSigned 2)

/-! ### ZONE (R31) -/

/-- The pad segment range bytes: both 0xFF for none, else first ≤ last ≤ 31. -/
def padRangeOk (d : List Byte) : Bool :=
  (byteAt d 12 == 0xFF && byteAt d 13 == 0xFF) ||
    (decide (byteAt d 12 ≤ byteAt d 13) && decide (byteAt d 13 ≤ 31))

def padRangeOf (d : List Byte) : Option (Nat × Nat) :=
  if byteAt d 12 = 0xFF then none else some (byteAt d 12, byteAt d 13)

def zoneDataOk (index : Nat) (d : List Byte) : Bool :=
  within 0 12000 (le16 d 0) && within 0 12000 (le16 d 2) && within 0 12000 (le16 d 4) &&
  within 1 2000 (le16 d 6) && within 0 12000 (le16 d 8) && within 1 65535 (le16 d 10) && padRangeOk d &&
  decide (le16 d 0 ≤ le16 d 2) && decide (le16 d 4 ≤ le16 d 2) && (index != 7 || (padRangeOf d).isNone)

def zoneOfData (d : List Byte) : ZoneConf :=
  ⟨le16 d 0, le16 d 2, le16 d 4, le16 d 6, le16 d 8, le16 d 10, padRangeOf d⟩

def zoneLength : Nat := 14

def zoneData (c : ZoneConf) : List Byte :=
  put16 c.lmin ++ put16 c.lmax ++ put16 c.release ++ put16 c.rampRate ++ put16 c.trackBand ++
  put16 c.trackPersist ++
  [toByte ((c.padRange.map (·.1)).getD 0xFF), toByte ((c.padRange.map (·.2)).getD 0xFF)]

/-! ### SEGMENT (R67) and PROGRAM (R68) -/

def segmentDataOk (d : List Byte) : Bool :=
  within 0 2000 (le16 d 0) && within 0 2000 (le16 d 2) && within 1 65535 (le16 d 4) &&
  within 1 1000 (le16 d 6) && within 0 200 (byteAt d 8)

def segmentOfData (d : List Byte) : Segment := ⟨le16 d 0, le16 d 2, le16 d 4, le16 d 6, byteAt d 8⟩

def segmentLength : Nat := 9

def segmentData (x : Segment) : List Byte :=
  put16 x.startRadius ++ put16 x.endRadius ++ put16 x.dwell ++ put16 x.downForce ++ [toByte x.diskSpeed]

def sweepModeOf : Nat → SweepMode
  | 0 => .single | 1 => .singleRestart | 2 => .continuous | _ => .stepped

def SweepMode.code : SweepMode → Nat
  | .single => 0 | .singleRestart => 1 | .continuous => 2 | .stepped => 3

def reportModeOf : Nat → ReportMode
  | 0 => .protect | _ => .overwrite

def ReportMode.code : ReportMode → Nat
  | .protect => 0 | .overwrite => 1

/-- In range, and no STEPPED program with an empty trigger set. -/
def programDataOk (d : List Byte) : Bool :=
  within 0 31 (byteAt d 0) && within 0 31 (byteAt d 1) && within 0 3 (byteAt d 2) && within 0 7 (byteAt d 3) &&
  within 1 65535 (le16 d 4) && within 0 2000 (le16 d 6) && within 0 2000 (le16 d 8) &&
  within 1 65535 (le16 d 10) && within 0 1 (byteAt d 12) && (byteAt d 2 != 3 || byteAt d 3 != 0)

def programOfData (d : List Byte) : Program where
  startSeg := byteAt d 0
  endSeg := byteAt d 1
  mode := sweepModeOf (byteAt d 2)
  trigDirective := bitAt (byteAt d 3) 0
  trigPlatenIndex := bitAt (byteAt d 3) 1
  trigInterval := bitAt (byteAt d 3) 2
  interval := le16 d 4
  parkRadius := le16 d 6
  tolerance := le16 d 8
  traverseLimit := le16 d 10
  report := reportModeOf (byteAt d 12)

def programLength : Nat := 13

def programData (p : Program) : List Byte :=
  [toByte p.startSeg, toByte p.endSeg, toByte p.mode.code,
   toByte (asBit p.trigDirective 0 + asBit p.trigPlatenIndex 1 + asBit p.trigInterval 2)] ++
  put16 p.interval ++ put16 p.parkRadius ++ put16 p.tolerance ++ put16 p.traverseLimit ++
  [toByte p.report.code]

/-! ### BLEND (R105) -/

def blendDataOk (d : List Byte) : Bool :=
  within 0 1000 (le16 d 0) && allChannels.all (fun c => within 0 256 (le16 d (2 + 2 * c.val))) &&
  le16 d 2 + le16 d 4 + le16 d 6 + le16 d 8 == 256

def blendOfData (d : List Byte) : Blend := ⟨le16 d 0, Vector.ofFn fun c => le16 d (2 + 2 * c.val)⟩

def blendLength : Nat := 10

def blendData (b : Blend) : List Byte := put16 b.total ++ b.ratios.toList.flatMap put16

/-! ### CHANNEL (R106, R126) -/

/-- Each field of a CHANNEL entry in its range. DESIGN CHOICE: the configured enable, the abrasive mark and the flow check
are coded 0 and 1; section 10.11 gives their bytes no codes (notes/assumptions/40.md). -/
def channelDataOk (d : List Byte) : Bool :=
  within 0 1 (byteAt d 0) && within 0 5 (byteAt d 1) && within 0 3 (byteAt d 2) && within 0 1 (byteAt d 3) &&
  within 0 1 (byteAt d 4) && within 0 255 (byteAt d 5) && within 1 1000 (le16 d 6) && within 0 1 (byteAt d 8) &&
  within 0 1000 (le16 d 9) && within 1 65535 (le16 d 11)

/-- The entry of the data. DESIGN CHOICE: 1 is enabled, abrasive, and a flow check ON; 0 is not (notes/assumptions/40.md). -/
def channelOfData (d : List Byte) : ChannelConf where
  abrasive := byteAt d 4 == 1
  delay := byteAt d 5
  fullScale := le16 d 6
  flowCheck := byteAt d 8 == 1
  flowBand := le16 d 9
  flowPersist := le16 d 11
  enable := byteAt d 0 == 1
  prescale := prescaleOf (byteAt d 1)
  resolution := resolutionOf (byteAt d 2)
  activeHigh := byteAt d 3 == 1

def channelLength : Nat := 13

/-- The data of an entry, with the codes of channelOfData (notes/assumptions/40.md). -/
def channelData (c : ChannelConf) : List Byte :=
  [toByte (asBit c.enable 0), toByte (prescaleCode c.prescale), toByte (resolutionCode c.resolution),
   toByte (asBit c.activeHigh 0), toByte (asBit c.abrasive 0), toByte c.delay] ++ put16 c.fullScale ++
  [toByte (asBit c.flowCheck 0)] ++ put16 c.flowBand ++ put16 c.flowPersist

/-! ### SLOTMAP (R173) and SOURCE (R151) -/

/-- The entry of the data: none for a binding code of 0, whose other fields are ignored. -/
def slotEntryOfData (d : List Byte) : Option SlotEntry :=
  (Binding.ofCode (byteAt d 0)).map fun b => ⟨b, d.getD 1 0, d.getD 2 0⟩

/-- The refusals of R173, against the part's own address and the other entries. -/
def slotEntryOk (own : Byte) (others : List SlotEntry) (d : List Byte) : Bool :=
  byteAt d 0 == 0 ||
    match slotEntryOfData d with
    | none => false
    | some e => e.node != 0 && decide (e.node.toNat < 63) && e.node != own &&
        others.all fun o => o.binding != e.binding && !(o.node == e.node && o.kind == e.kind)

def slotEntryLength : Nat := 3

def slotEntryData : Option SlotEntry → List Byte
  | none => [0, 0, 0]
  | some e => [toByte e.binding.code, e.node, e.kind]

/-- Levels 0 to 6, one of the four reactions; indices 0 and 1 are fixed (R150, R151). DESIGN CHOICE: the enable is coded 0
and 1, 1 for on; section 10.11 gives its byte no codes (notes/assumptions/40.md). -/
def sourceDataOk (index : Nat) (d : List Byte) : Bool :=
  decide (2 ≤ index) && within 0 1 (byteAt d 0) && within 0 6 (byteAt d 1) &&
    (Reaction.ofCode (byteAt d 2)).isSome

def sourceLength : Nat := 3

def sourceData (x : SourceState) : List Byte :=
  [toByte (asBit x.enable 0), toByte x.level, toByte x.reaction.code]

end Sys2Proof.Machine
end

