-- ==== Sys2Proof/Machine/Flags.lean ====
section
/-! DEFINITION. The fault sources as flags: names, scopes, what is pending, what the taking rule chooses, and
the three views the other blocks test against (R148, R152 to R154, R163). Also the sets of parties and the
accepted input levels that several blocks read. -/

namespace Sys2Proof.Machine

/-! ### Sources and scopes (R148) -/

namespace Src
def estopChain : SourceId := 0
def frameGap : SourceId := 1
def doorOpen : SourceId := 2
def slurryLeak : SourceId := 3
def waferLoss : Head → SourceId
  | .a => 4 | .b => 5
def track : Head → SourceId
  | .a => 6 | .b => 7
def readbackStale : Head → SourceId
  | .a => 8 | .b => 9
def readbackStalePlaten : SourceId := 10
def flowDeviation : SourceId := 11
def condTraverseTimeout : SourceId := 12
def padAbsent : SourceId := 13
def diskAbsent : SourceId := 14
def cycleDiscontinuity : SourceId := 15
def stepCap : Head → SourceId
  | .a => 16 | .b => 17
def removalSaturated : Head → SourceId
  | .a => 18 | .b => 19
def corruptFrame : SourceId := 20
def holdPoint : SourceId := 21
end Src

/-- The head whose source this is, or none for a source of the platen (R148). -/
def scopeHead (i : SourceId) : Option Head :=
  if i.val = 4 ∨ i.val = 6 ∨ i.val = 8 ∨ i.val = 16 ∨ i.val = 18 then some .a
  else if i.val = 5 ∨ i.val = 7 ∨ i.val = 9 ∨ i.val = 17 ∨ i.val = 19 then some .b
  else none

/-- The source concerns the head: it is the head's own or the platen's (R163). -/
def concerns (i : SourceId) (h : Head) : Bool :=
  match scopeHead i with
  | none => true
  | some k => k == h

/-- The source's scope is the platen. -/
def platenScope (i : SourceId) : Bool := (scopeHead i).isNone

/-! ### The taking rule (R152 to R154) -/

/-- A source is pending when its status is set, it is enabled and its level is above 0. -/
def SourceState.isPending (x : SourceState) : Bool := x.status && x.enable && decide (0 < x.level)

/-- The response level: 0 when no response is in force (R153). -/
def Arbiter.level (f : Arbiter) : Nat :=
  match f.current with
  | none => 0
  | some r => r.level

/-- Keep the source found first at the highest level. -/
def higherPending (f : Arbiter) (best : Option SourceId) (i : SourceId) : Option SourceId :=
  if f.sources[i].isPending then
    match best with
    | none => some i
    | some j => if f.sources[j].level < f.sources[i].level then some i else some j
  else best

/-- Steps 1 and 2: among the pending sources at the highest level, the one with the lowest index. -/
def Arbiter.choice (f : Arbiter) : Option SourceId := allSources.foldl (higherPending f) none

/-- The current response on top of the stack when the response level is above 0 (R154). -/
def Arbiter.pushed (f : Arbiter) : List Response :=
  match f.current with
  | none => f.stack
  | some r => if 0 < r.level then r :: f.stack else f.stack

/-- The taking rule of R152 up to step 4: the response taken, where one is, and the arbiter after it. -/
def Arbiter.take (f : Arbiter) : Option Response × Arbiter :=
  match f.choice with
  | none => (none, f)
  | some i =>
    if f.level < f.sources[i].level then
      let r : Response := ⟨f.sources[i].level, i, f.sources[i].reaction⟩
      (some r, { f with current := some r, stack := f.pushed })
    else (none, f)

/-- Set a source's status (R149). -/
def Arbiter.setStatus (f : Arbiter) (i : SourceId) : Arbiter :=
  { f with sources := f.sources.set i { f.sources[i] with status := true } }

/-- Clear a source's status. -/
def Arbiter.clearStatus (f : Arbiter) (i : SourceId) : Arbiter :=
  { f with sources := f.sources.set i { f.sources[i] with status := false } }

/-- Return from the current response: the top record, or level 0 (R155). -/
def Arbiter.pop (f : Arbiter) : Arbiter :=
  match f.stack with
  | [] => { f with current := none }
  | r :: rest => { f with current := some r, stack := rest }

/-- The pending-any flag: some source has its status set and its enable on, whatever its level (R165). -/
def Arbiter.pendingAny (f : Arbiter) : Bool :=
  allSources.any fun i => f.sources[i].status && f.sources[i].enable

/-- The current reaction bars the head's START: HOLD, RETRACT or VENT with the head in scope (R8, R163). -/
def barsStart (f : Arbiter) (h : Head) : Bool :=
  match f.current with
  | none => false
  | some r => r.reaction != .notify && concerns r.source h

/-- The current reaction bars START_SWEEP: RETRACT or VENT in platen scope (R88, R163). -/
def barsSweep (f : Arbiter) : Bool :=
  match f.current with
  | none => false
  | some r => (r.reaction == .retract || r.reaction == .vent) && platenScope r.source

/-- A response is a VENT that concerns the head. -/
def Response.ventsHead (r : Response) (h : Head) : Bool := r.reaction == .vent && concerns r.source h

/-- A VENT with the head or the platen as its scope is in force or recorded (R14, R163). -/
def ventInForce (f : Arbiter) (h : Head) : Bool :=
  f.stack.any (·.ventsHead h) ||
    match f.current with
    | none => false
    | some r => r.ventsHead h

/-! ### Sets of parties -/

/-- Membership. -/
def Parties.has (p : Parties) : Party → Bool
  | .head .a => p.a
  | .head .b => p.b
  | .tc => p.tc

/-- Add or remove a party. -/
def Parties.put (p : Parties) (x : Party) (v : Bool) : Parties :=
  match x with
  | .head .a => { p with a := v }
  | .head .b => { p with b := v }
  | .tc => { p with tc := v }

/-- No party is a member. -/
def Parties.isEmpty (p : Parties) : Bool := !p.a && !p.b && !p.tc

/-- The party is the only member. -/
def Parties.isOnly (p : Parties) (x : Party) : Bool := p == Parties.empty.put x true

/-! ### Hold causes, head states, accepted levels -/

/-- The hold-cause set is empty (R15). -/
def HoldCauses.isEmpty (c : HoldCauses) : Bool := c == HoldCauses.none

/-- RUNNING or HELD: the states in which a step is in force (R18). -/
def HeadMode.inStep (m : HeadMode) : Bool := m == .running || m == .held

/-- RUNNING, HELD or RAMPDOWN: the states in which a wafer is in process (R30, R54, R145, R176). -/
def HeadMode.inUse (m : HeadMode) : Bool := m == .running || m == .held || m == .rampdown

namespace Di
def estopOk : InputId := 0
def doorClosed : InputId := 1
def leak : InputId := 2
def padPresent : InputId := 3
def diskPresent : InputId := 4
def platenIndex : InputId := 5
def wafer : Head → InputId
  | .a => 6 | .b => 7
end Di

/-- The accepted level of an input. -/
def acceptedLevel (s : State) (n : InputId) : Option Bool := s.inputs[n].accepted

/-- An interlock is satisfied when its accepted level is ASSERTED; UNSETTLED is not (R146). -/
def satisfied (s : State) (n : InputId) : Bool := acceptedLevel s n == some true

/-- The four START interlocks of a head (R8, R146). -/
def startInterlocks (h : Head) : List InputId := [Di.estopOk, Di.doorClosed, Di.padPresent, Di.wafer h]

/-- Pad and disk are both accepted present (R73). -/
def padAndDisk (s : State) : Bool := satisfied s Di.padPresent && satisfied s Di.diskPresent

end Sys2Proof.Machine
end

