-- ==== Sys2Proof/Machine/Ops.lean ====
section
/-! DEFINITION. The operations that several commands share: what the blocks do to one another. Step entry,
leaving a step, claims and the owner set, the demand set and the lift, the pulse supply, reactions, and the
setting of a fault status with the taking rule. -/

namespace Sys2Proof.Machine

/-! ### Arithmetic (00_scope 3.2) -/

/-- A sum that saturates at `m`. -/
def satAdd (m x y : Nat) : Nat := min m (x + y)

/-- The distance between two numbers. -/
def distance (x y : Nat) : Nat := if x ≤ y then y - x else x - y

/-! ### Pulse channels (R128, R129, R133, R135) -/

/-- A channel starts: counter 0, first-period mark set, output inactive (R129). -/
def PulseChannel.start (x : PulseChannel) : PulseChannel :=
  { x with running := true, first := true, counter := 0, phase := 0, active := false }

/-- A channel stops at once; counter, buffer and compare are kept (R133). -/
def PulseChannel.stop (x : PulseChannel) : PulseChannel :=
  { x with running := false, first := false, active := false }

/-- The running condition of R128, re-evaluated: enable and supply. -/
def PulseChannel.refresh (enable supply : Bool) (x : PulseChannel) : PulseChannel :=
  if enable && supply then (if x.running then x else x.start)
  else if x.running then x.stop else x

/-- Re-evaluate every channel's running condition (R128). -/
def refreshPulse (s : State) : State :=
  s.setPulse { s.pulse with
    ch := Vector.ofFn fun c => (s.pulse.ch[c]).refresh s.slurry.channels[c].enable s.pulse.supply }

/-- Turn the supply on or off (R135, R136). -/
def setSupply (v : Bool) (s : State) : State := refreshPulse (s.setPulse { s.pulse with supply := v })

/-- The notice of R109: the current blend has become NONE, or has become a blend from NONE. -/
def blendNotice (before after : Option Nat) (s : State) : State :=
  match before, after with
  | none, some _ => setSupply true s
  | some _, none => setSupply false s
  | _, _ => s

/-! ### The conditioner: lift, demand, start (R71 to R74, R81, R85) -/

/-- The states from which the conditioner can be lifted (R85). -/
def CondMode.away (m : CondMode) : Bool :=
  m == .traverse || m == .sweeping || m == .stepWait || m == .reportHold

/-- Entry to LIFTING (R85): a staged sample is discarded, the counts keep their values. -/
def Conditioner.lift (c : Conditioner) : Conditioner :=
  { c with mode := .lifting, fresh := true, cont := .none, leg := none, stagedSample := none,
           startReq := c.startReq && !c.demand.isEmpty }

/-- The demand set has just become empty (R72, R85). -/
def Conditioner.emptied (c : Conditioner) : Conditioner :=
  let c := { c with startReq := false }
  if c.mode.away then c.lift else c

/-- A party leaves the demand set (R71). -/
def Conditioner.leave (p : Party) (c : Conditioner) : Conditioner :=
  if c.demand.has p then
    let c := { c with demand := c.demand.put p false }
    if c.demand.isEmpty then c.emptied else c
  else c

/-- Every member leaves the demand set, and the arm lifts (R70, R86). -/
def Conditioner.clearDemand (c : Conditioner) : Conditioner := { c with demand := .empty }.emptied

/-- Entry to TRAVERSE toward a segment (R79, R81, R84). -/
def Conditioner.traverseTo (k : Nat) (c : Conditioner) : Conditioner :=
  { c with mode := .traverse, fresh := true, current := some k, traverse := 0, timeoutMark := false,
           cont := .none, leg := none }

/-- The program starts (R73). -/
def Conditioner.startProgram (p : Program) (c : Conditioner) : Conditioner :=
  { c.traverseTo p.startSeg with dwell := 0, interval := 0, startReq := false }

/-- Take the continuation chosen at the end of a dwell (R81, R82). -/
def Conditioner.takeContinuation (c : Conditioner) : Conditioner :=
  match c.cont with
  | .traverse k => c.traverseTo k
  | .stepWait _ => { c with mode := .stepWait, fresh := true, interval := 0, leg := none }
  | .lifting => c.lift
  | .none => c

/-- The segments one pass of the program visits, in order (R74). -/
def traversal (count start last : Nat) : List Nat :=
  (List.range ((last + count - start) % count + 1)).map fun k => (start + k) % count

/-- The segment of a number, where it is defined. -/
def Conditioner.segment (c : Conditioner) (k : Nat) : Option Segment := (c.segments[k]?).join

/-- The second part of the start check (R73). -/
def Conditioner.segmentsOk (c : Conditioner) (p : Program) : Bool :=
  decide (1 ≤ c.segCount) && decide (p.startSeg < c.segCount) && decide (p.endSeg < c.segCount) &&
    (traversal c.segCount p.startSeg p.endSeg).all fun k => (c.segment k).isSome

/-- Each head in the demand set has its conditioner-unavailable mark set (R73). -/
def markUnavailable (s : State) : State :=
  let mark (h : Head) (t : State) : State :=
    if s.cond.demand.has (.head h) then t.modHead h fun u => { u with condUnavailable := true } else t
  mark .b (mark .a s)

/-- The start check, made whenever PARKED meets a start request and a non-empty demand set (R73). -/
def tryStart (s : State) : State :=
  if s.cond.mode == .parked && s.cond.startReq && !s.cond.demand.isEmpty then
    match s.cond.program with
    | none => markUnavailable s
    | some p =>
      if s.cond.segmentsOk p && padAndDisk s then s.setCond (s.cond.startProgram p) else markUnavailable s
  else s

/-- A head enters a step whose conditioning field is ON (R71, R72, R73). -/
def condJoin (h : Head) (s : State) : State :=
  let c := s.cond
  tryStart (s.setCond { c with
    demand := c.demand.put (.head h) true
    startReq := c.startReq || c.mode == .parked || c.mode == .lifting })

/-- A party leaves the demand set (R71, R85). -/
def condLeave (p : Party) (s : State) : State := s.setCond (s.cond.leave p)

/-! ### Claims and the owner set (R109 to R113) -/

/-- The waiting claim of a head. -/
def Slurry.wait (x : Slurry) : Head → Option Nat
  | .a => x.waitA
  | .b => x.waitB

/-- Set the waiting claim of a head. -/
def Slurry.setWait (x : Slurry) (h : Head) (v : Option Nat) : Slurry :=
  match h with
  | .a => { x with waitA := v }
  | .b => { x with waitB := v }

/-- The undecided claim of a head (R111). -/
def Slurry.undecided (x : Slurry) : Head → Option Nat
  | .a => x.undecA
  | .b => x.undecB

/-- Set the undecided claim of a head. -/
def Slurry.setUndecided (x : Slurry) (h : Head) (v : Option Nat) : Slurry :=
  match h with
  | .a => { x with undecA := v }
  | .b => { x with undecB := v }

/-- The three cases of R110. -/
def Slurry.canGrant (x : Slurry) (p : Party) (n : Nat) : Bool :=
  x.owners.isEmpty || x.blend == some n || x.owners.isOnly p

/-- Write the current blend and the owner set, and give the notice of R109. -/
def setBlend (blend : Option Nat) (owners : Parties) (s : State) : State :=
  blendNotice s.slurry.blend blend (s.setSlurry { s.slurry with blend := blend, owners := owners })

/-- A party leaves the owner set; an emptied set makes the blend NONE, and the waiting claims are examined by
`examine` (R109, R112, R113). -/
def leaveOwnersWith (examine : State → State) (p : Party) (s : State) : State :=
  if s.slurry.owners.has p then
    let o := s.slurry.owners.put p false
    examine (setBlend (if o.isEmpty then none else s.slurry.blend) o s)
  else s

/-! ### Step entry (R19, R20) -/

/-- A head's step, where it is defined. -/
def HeadUnit.step (u : HeadUnit) (j : Nat) : Option StepEntry := (u.steps[j]?).join

/-- The step's targets and rates come into force (R35). -/
def HeadUnit.stepTargets (st : StepEntry) (u : HeadUnit) : Vector ZoneState 8 :=
  Vector.ofFn fun z => { u.zones[z] with target := st.targets[z], rate := st.rates[z] }

/-- The release pressures and ramp-down rates come into force (R35). -/
def HeadUnit.releaseTargets (u : HeadUnit) : Vector ZoneState 8 :=
  Vector.ofFn fun z => { u.zones[z] with target := u.zoneConf[z].release, rate := u.zoneConf[z].rampRate }

/-- Items 1 to 5 of R19: the head's own part of a step entry. -/
def HeadUnit.enter (j : Nat) (st : StepEntry) (u : HeadUnit) : HeadUnit :=
  { u with current := some j, pendingStep := none, timer := 0, stepAcc := Vector.replicate 7 0,
           zones := u.stepTargets st, stepsExecuted := satAdd 65535 u.stepsExecuted 1, fresh := true }

/-- Item 6 of R19: the blend field is handed to the slurry controller (R20, R111, R112). -/
def handBlend (examine : State → State) (h : Head) (f : BlendField) (s : State) : State :=
  match f with
  | .absent => s
  | .release => leaveOwnersWith examine (.head h) s
  | .index n => s.setSlurry (s.slurry.setUndecided h (some n))

/-- Item 7 of R19: the conditioning field is handed to the conditioner (R71). -/
def handConditioning (h : Head) (f : CondField) (s : State) : State :=
  match f with
  | .absent => s
  | .on => condJoin h s
  | .off => condLeave (.head h) s

/-- A step is begun (R19). A recipe that ARM found valid has every step defined (R4). -/
def beginStepWith (examine : State → State) (h : Head) (j : Nat) (s : State) : State :=
  match (s.head h).step j with
  | none => s
  | some st =>
    handConditioning h st.conditioning
      (handBlend examine h st.blend (s.modHead h (HeadUnit.enter j st)))

/-- A HELD head whose cause set is empty returns to RUNNING, and a deferred step is entered (R15). -/
def returnIfFreeWith (examine : State → State) (h : Head) (s : State) : State :=
  if (s.head h).mode == .held && (s.head h).causes.isEmpty then
    let t := s.modHead h fun u => { u with mode := .running, pendingStep := none }
    match (s.head h).pendingStep with
    | none => t
    | some j => beginStepWith examine h j t
  else s

/-- A head's claim is granted (R110): blend, owner set, and BLEND_WAIT out of the cause set. -/
def grantHeadWith (examine : State → State) (h : Head) (n : Nat) (s : State) : State :=
  let t := setBlend (some n) (s.slurry.owners.put (.head h) true) s
  let t := t.setSlurry (t.slurry.setWait h none)
  if (t.head h).causes.blendWait then
    returnIfFreeWith examine h
      (t.modHead h fun u => { u with causes := { u.causes with blendWait := false } })
  else t

/-- One waiting claim examined (R113). -/
def examineHeadWith (examine : State → State) (h : Head) (s : State) : State :=
  match s.slurry.wait h with
  | none => s
  | some n => if s.slurry.canGrant (.head h) n then grantHeadWith examine h n s else s

/-- The waiting claims examined, head A's first and then head B's (R113). `inner` examines for a removal that a
step entered by a grant makes. -/
def examineWith (inner : State → State) (s : State) : State :=
  examineHeadWith inner .b (examineHeadWith inner .a s)

/-- The examination of R113. Each grant uses up a waiting claim and there are two, so examinations started from
inside an examination end after two. -/
def examine (s : State) : State := examineWith (examineWith id) s

/-- A party leaves the owner set (R112, R115). -/
def leaveOwners (p : Party) (s : State) : State := leaveOwnersWith examine p s

/-- A step is begun (R19). -/
def beginStep (h : Head) (j : Nat) (s : State) : State := beginStepWith examine h j s

/-- A HELD head whose cause set is empty returns to RUNNING (R15). -/
def returnIfFree (h : Head) (s : State) : State := returnIfFreeWith examine h s

/-- A change of the owner set or the current blend starts the examination of R113. -/
def examineIfChanged (before after : State) : State :=
  if before.slurry.blend == after.slurry.blend && before.slurry.owners == after.slurry.owners then after
  else examine after

/-! ### Leaving RUNNING or HELD (R18, R25, R13) -/

/-- The claims of a head are dropped (R112). -/
def dropClaims (h : Head) (s : State) : State :=
  s.setSlurry ((s.slurry.setWait h none).setUndecided h none)

/-- R18: the cause set empties, the pending step and the loop counter go, the head leaves the owner set and the
demand set. The head already stands in its new state. -/
def withdraw (h : Head) (s : State) : State :=
  let t := s.modHead h fun u => { u with causes := .none, pendingStep := none, loopCounter := 0 }
  condLeave (.head h) (leaveOwners (.head h) (dropClaims h t))

/-- A head leaves RUNNING or HELD for RAMPDOWN with an end cause (R25). -/
def enterRampdown (cause : EndCause) (h : Head) (s : State) : State :=
  withdraw h (s.modHead h fun u =>
    { u with mode := .rampdown, endCause := some cause, zones := u.releaseTargets })

/-- A head enters VENTED with a recorded vent level (R13, R17). -/
def enterVented (level : Nat) (h : Head) (s : State) : State :=
  let t := s.modHead h fun u => { u with mode := .vented, ventLevel := level }
  if (s.head h).mode.inStep then withdraw h t else t

/-! ### Reactions (R17, R86, R116, R136, R157 to R160) -/

/-- A reaction reaches a head (the table of R17). -/
def reactHead (reaction : Reaction) (level : Nat) (h : Head) (s : State) : State :=
  match reaction with
  | .notify => s
  | .hold =>
    if (s.head h).mode.inStep then
      s.modHead h fun u => { u with mode := .held, causes := { u.causes with fault := some level } }
    else s
  | .retract => if (s.head h).mode.inStep then enterRampdown .fault h s else s
  | .vent =>
    match (s.head h).mode with
    | .idle => s
    | .vented => s.modHead h fun u => { u with ventLevel := level }
    | _ => enterVented level h s

/-- A platen reaction reaches the conditioner (R86). -/
def reactCond (reaction : Reaction) (s : State) : State :=
  if reaction == .retract || reaction == .vent then s.setCond s.cond.clearDemand else s

/-- A platen reaction reaches the slurry controller (R116). -/
def reactSlurry (reaction : Reaction) (s : State) : State :=
  if reaction == .retract || reaction == .vent then leaveOwners .tc s else s

/-- A platen reaction reaches the pulse unit (R136). -/
def reactPulse (reaction : Reaction) (s : State) : State :=
  if reaction == .vent then setSupply false s else s

/-- A reaction is handed to a head; to the head `busy` with its own handling of a frame it is handed when that
handling is complete (R161). -/
def handHead (busy : Option Head) (r : Response) (h : Head) (s : State) : State :=
  if busy == some h then s.setDue (s.due ++ [⟨h, r.reaction, r.level⟩]) else reactHead r.reaction r.level h s

/-- The reaction is handed to the blocks of its source's scope (R157). -/
def deliver (busy : Option Head) (r : Response) (s : State) : State :=
  match scopeHead r.source with
  | some h => handHead busy r h s
  | none =>
    reactPulse r.reaction (reactSlurry r.reaction (reactCond r.reaction
      (handHead busy r .b (handHead busy r .a s))))

/-- The taking rule (R152). -/
def applyTaking (busy : Option Head) (s : State) : State :=
  match s.faults.take with
  | (none, _) => s
  | (some r, f) => deliver busy r (s.setFaults f)

/-- A detector sets a source's status, and the taking rule is applied (R149, R152). -/
def detectWhile (busy : Option Head) (i : SourceId) (s : State) : State :=
  applyTaking busy (s.setFaults (s.faults.setStatus i))

/-- A detection outside any head's handling of a frame. -/
def detect (i : SourceId) (s : State) : State := detectWhile none i s

/-- The reactions a head's handling provoked reach it (R161). -/
def deliverDue (h : Head) (s : State) : State :=
  (s.due.filter (·.head == h)).foldl (fun t d => reactHead d.reaction d.level h t)
    (s.setDue (s.due.filter (·.head != h)))

/-! ### Step entry under the hold-point comparators (R16) -/

/-- An enabled comparator that names this head and step. -/
def HoldPoint.hits (x : HoldPoint) (h : Head) (j : Nat) : Bool := x.enable && x.head == h && x.step == j

/-- A comparator matches the step about to be entered. -/
def holdPointHit (s : State) (h : Head) (j : Nat) : Bool :=
  (s.holdPoints[0]).hits h j || (s.holdPoints[1]).hits h j

/-- A step entry subject to the comparators: deferred when one matches, else begun (R16, R19). -/
def enterStep (h : Head) (j : Nat) (s : State) : State :=
  if holdPointHit s h j then
    detectWhile (some h) Src.holdPoint (s.modHead h fun u =>
      { u with pendingStep := some j, mode := .held, causes := { u.causes with holdPoint := true } })
  else beginStep h j s

end Sys2Proof.Machine
end

