-- ==== Sys2Proof/Machine/HeadCommands.lean ====
section
/-! DEFINITION. The head sequencer's commands: the six head directives (R7 to R14) and the step exits (R21 to
R24). A command of this file is the directive's taking, or the exit, on its own; a frame's handling of a head
(Machine/Frames.lean) is made of the same operations. -/

namespace Sys2Proof.Machine

/-- A command that reaches a block: in pass-through address no block receives anything (R181). -/
def whenActive (f : State → State) (s : State) : State := if passThrough s then s else f s

/-! ### The directives (R8 to R14) -/

/-- A taken START begins a new wafer (R9), before its entry to step 0. -/
def HeadUnit.newWafer (u : HeadUnit) : HeadUnit :=
  { u with
    stepAcc := Vector.replicate 7 0
    waferAcc := Vector.replicate 7 0
    zones := Vector.ofFn fun z =>
      { u.zones[z] with
        target := u.zoneConf[z].release, rate := u.zoneConf[z].rampRate, setpoint := u.zoneConf[z].release
        range := false, diff := false, track := 0 }
    loopCounter := 0, stepsExecuted := 0, cappedSteps := 0, waferCycles := 0, condUnavailable := false
    summary := none, endCause := none, current := none, mode := .running }

/-- A summary is carried when all eight parts are in its set (R28). -/
def Summary.isCarried (x : Summary) : Bool := x.carried.toList.all id

/-- Checks 2 to 4 of R8, once the state admits the START. -/
def startChecks (h : Head) (s : State) : DirOutcome :=
  if !((startInterlocks h).all (satisfied s)) then .refusedInterlock
  else if barsStart s.faults h then .refusedFault
  else if !(zonesBound s.ring h) then .badArgument
  else .taken

/-- The checks of R8. -/
def startOutcome (h : Head) (s : State) : DirOutcome :=
  match (s.head h).mode with
  | .ready => startChecks h s
  | .complete =>
    match (s.head h).summary with
    | some x => if x.isCarried then startChecks h s else .summaryPending
    | none => .summaryPending
  | _ => .ignoredState

/-- START (R8, R9). -/
def actStart (h : Head) (s : State) : DirOutcome × State :=
  if startOutcome h s = .taken then (.taken, enterStep h 0 (s.modHead h HeadUnit.newWafer))
  else (startOutcome h s, s)

/-- HOLD (R10). -/
def actHold (h : Head) (s : State) : DirOutcome × State :=
  if (s.head h).mode.inStep then
    (.taken, s.modHead h fun u => { u with mode := .held, causes := { u.causes with directive := true } })
  else (.ignoredState, s)

/-- RESUME is refused while the response level is not below the level recorded with FAULT (R11). -/
def resumeRefused (h : Head) (s : State) : Bool :=
  match (s.head h).causes.fault with
  | none => false
  | some l => decide (l ≤ s.faults.level)

/-- RESUME (R11). -/
def actResume (h : Head) (s : State) : DirOutcome × State :=
  if (s.head h).mode = .held then
    if resumeRefused h s then (.refusedFault, s)
    else (.taken, returnIfFree h (s.modHead h fun u =>
      { u with causes := { u.causes with directive := false, holdPoint := false, fault := none } }))
  else (.ignoredState, s)

/-- STOP (R12). -/
def actStop (h : Head) (s : State) : DirOutcome × State :=
  if (s.head h).mode.inStep then (.taken, enterRampdown .stop h s) else (.ignoredState, s)

/-- VENT (R13). -/
def actVent (h : Head) (s : State) : DirOutcome × State :=
  match (s.head h).mode with
  | .idle => (.ignoredState, s)
  | .vented => (.taken, s)
  | _ => (.taken, enterVented 0 h s)

/-- RECOVER is admitted in either of the two cases of R14. -/
def recoverAdmitted (h : Head) (s : State) : Bool :=
  if (s.head h).ventLevel = 0 then !(ventInForce s.faults h)
  else decide (s.faults.level < (s.head h).ventLevel)

/-- RECOVER (R14). -/
def actRecover (h : Head) (s : State) : DirOutcome × State :=
  if (s.head h).mode = .vented then
    if recoverAdmitted h s then
      (.taken, s.modHead h fun u => { u with mode := .ready, ventLevel := 0 })
    else (.refusedFault, s)
  else (.ignoredState, s)

/-- A taken directive's outcome, with its count, replaces the head's last (R7, R177). -/
def recordHead (h : Head) (count : BitVec 4) (r : DirOutcome × State) : State :=
  r.2.modHead h fun u => { u with dirCount := some count, outcome := some r.1 }

/-- The endpoint flag of the head's slot is recorded, taken or not (R7). -/
def setEndpoint (h : Head) (v : Bool) (s : State) : State := s.modHead h fun u => { u with endpoint := v }

/-- A directive taken by a head, with the flag of its slot. -/
def takeHead (act : Head → State → DirOutcome × State) (h : Head) (count : BitVec 4) (s : State) : State :=
  recordHead h count (act h s)

/-- A head directive as a command of its own: the taking, then the reactions it provoked (R161). -/
def headCommand (act : Head → State → DirOutcome × State) (h : Head) (count : BitVec 4) (endpoint : Bool)
    (s : State) : State :=
  whenActive (fun t => deliverDue h (takeHead act h count (setEndpoint h endpoint t))) s

/-! ### Step exits (R21 to R24) -/

/-- The causes of a step exit (R22). -/
inductive ExitCause where
  | endpoint | removal | time | cap
deriving DecidableEq, Repr

/-- The step accumulator of the reference zone has reached the target, in ru (R22, R63). -/
def removalReached (u : HeadUnit) (st : StepEntry) : Bool :=
  match st.refZone, st.removalTarget with
  | some z, some t => decide (t * 65536 ≤ u.stepAcc[z])
  | _, _ => false

/-- The step ends on the endpoint flag. -/
def ExitKind.endsOnEndpoint (k : ExitKind) : Bool := k == .endpoint || k == .removalOrEndpoint

/-- The step ends on removal. -/
def ExitKind.endsOnRemoval (k : ExitKind) : Bool := k == .removal || k == .removalOrEndpoint

/-- The first of R22's conditions that holds, at the head's present timer. -/
def exitCause (u : HeadUnit) (st : StepEntry) : Option ExitCause :=
  if st.exitKind.endsOnEndpoint && u.endpoint then some .endpoint
  else if st.exitKind.endsOnRemoval && removalReached u st then some .removal
  else if u.timer < st.duration then none
  else if st.exitKind = .time then some .time
  else some .cap

/-- Step j + 1 is entered, or the recipe is over (R24). -/
def nextStep (h : Head) (j : Nat) (s : State) : State :=
  if (s.head h).stepCount ≤ j + 1 then
    enterRampdown .normal h (s.modHead h fun u => { u with loopCounter := 0 })
  else enterStep h (j + 1) s

/-- The normal exit of step j (R24). -/
def normalExit (h : Head) (j : Nat) (st : StepEntry) (s : State) : State :=
  match st.loop with
  | none => nextStep h j s
  | some l =>
    if (s.head h).loopCounter < l.count then
      enterStep h l.target (s.modHead h fun u => { u with loopCounter := u.loopCounter + 1 })
    else nextStep h j (s.modHead h fun u => { u with loopCounter := 0 })

/-- A CAP exit (R23): the status, the count, then the cap action. -/
def capExit (h : Head) (j : Nat) (st : StepEntry) (s : State) : State :=
  let t := (detectWhile (some h) (Src.stepCap h) s).modHead h fun u =>
    { u with cappedSteps := satAdd 65535 u.cappedSteps 1 }
  match st.capAction with
  | .continue => normalExit h j st t
  | .abort => enterRampdown .cap h t

/-- The exit of step j by a cause (R22). -/
def exitStep (h : Head) (j : Nat) (st : StepEntry) (cause : ExitCause) (s : State) : State :=
  if cause = .cap then capExit h j st s else normalExit h j st s

/-- The step timer advances by the cycle advance (R21). -/
def HeadUnit.advance (a : Nat) (u : HeadUnit) : HeadUnit := { u with timer := u.timer + a }

/-- The head's current step with its index. -/
def currentStep (u : HeadUnit) : Option (Nat × StepEntry) :=
  match u.current with
  | none => none
  | some j => (u.step j).map fun st => (j, st)

/-- The exit evaluation of a head, made when R21's three conditions hold; `ranAtArrival` is the first. -/
def evaluateExit (ranAtArrival : Bool) (h : Head) (s : State) : State :=
  if ranAtArrival && (s.head h).mode == .running && !(s.head h).fresh then
    match currentStep (s.head h) with
    | none => s
    | some (j, st) =>
      let t := s.modHead h (HeadUnit.advance s.ring.advance)
      match exitCause (t.head h) st with
      | none => t
      | some c => exitStep h j st c t
  else s

/-- The exit event of a given cause as a command of its own: it comes about when the head is RUNNING and its
timer, advanced by the cycle advance in hand, makes this the cause of R22; else there is no such event. -/
def exitEvent (cause : ExitCause) (h : Head) (s : State) : State :=
  if (s.head h).mode = .running then
    match currentStep (s.head h) with
    | none => s
    | some (j, st) =>
      let t := s.modHead h (HeadUnit.advance s.ring.advance)
      if exitCause (t.head h) st = some cause then deliverDue h (exitStep h j st cause t) else s
  else s

/-! ### The meanings -/

/-- The head directive START (R8, R9). -/
def execStart (h : Head) (count : BitVec 4) (endpoint : Bool) (s : State) : Host.Outcome State Fault Refusal :=
  .next (headCommand actStart h count endpoint s)

/-- The head directive HOLD (R10). -/
def execHold (h : Head) (count : BitVec 4) (endpoint : Bool) (s : State) : Host.Outcome State Fault Refusal :=
  .next (headCommand actHold h count endpoint s)

/-- The head directive RESUME (R11). -/
def execResume (h : Head) (count : BitVec 4) (endpoint : Bool) (s : State) : Host.Outcome State Fault Refusal :=
  .next (headCommand actResume h count endpoint s)

/-- The head directive STOP (R12). -/
def execStop (h : Head) (count : BitVec 4) (endpoint : Bool) (s : State) : Host.Outcome State Fault Refusal :=
  .next (headCommand actStop h count endpoint s)

/-- The head directive VENT (R13). -/
def execVent (h : Head) (count : BitVec 4) (endpoint : Bool) (s : State) : Host.Outcome State Fault Refusal :=
  .next (headCommand actVent h count endpoint s)

/-- The head directive RECOVER (R14). -/
def execRecover (h : Head) (count : BitVec 4) (endpoint : Bool) (s : State) : Host.Outcome State Fault Refusal :=
  .next (headCommand actRecover h count endpoint s)

/-- The step timer of a TIME step reaches its duration (R22). -/
def execStepTimeExit (h : Head) (s : State) : Host.Outcome State Fault Refusal :=
  .next (whenActive (exitEvent .time h) s)

/-- The step timer of a non-TIME step reaches its duration (R23). -/
def execStepCap (h : Head) (s : State) : Host.Outcome State Fault Refusal :=
  .next (whenActive (exitEvent .cap h) s)

end Sys2Proof.Machine
end

