-- ==== Sys2Proof/Machine/Zones.lean ====
section
/-! DEFINITION. The zone computation unit (chapter 2): the pipeline from target to command, the fixed commands,
completion of a ramp-down with its summary, and the track check with its event TRACK_PERSISTENCE. -/

namespace Sys2Proof.Machine

/-! ### The stages (section 2.5) -/

/-- Clamped to [lo, hi] (00_scope 3.2). -/
def clampTo (lo hi x : Int) : Int := if x < lo then lo else if hi < x then hi else x

/-- The ramp stage for one zone: setpoint, target, step size r × a (R38). -/
def ramp (setpoint target size : Nat) : Nat :=
  if distance setpoint target ≤ size then target
  else if setpoint < target then setpoint + size else setpoint - size

/-- A profile entry is eligible when it is valid and its age is at most the limit (R40, R103). -/
def eligibleHeight (limit : Nat) (e : Option PadEntry) : Option Nat :=
  match e with
  | none => none
  | some p => if p.age ≤ limit then some p.height else none

/-- The heights of the eligible entries of a pad segment range (R103). -/
def eligibleHeights (c : Conditioner) (range : Nat × Nat) : List Nat :=
  (List.range (range.2 + 1 - range.1)).filterMap fun k =>
    eligibleHeight c.padAgeLimit (c.profile[range.1 + k]?).join

/-- The pad deviation of a zone and its pad-stale indicator (R40). -/
def padDeviation (c : Conditioner) (range : Option (Nat × Nat)) : Int × Bool :=
  match range with
  | none => (0, false)
  | some r =>
    match eligibleHeights c r with
    | [] => (0, true)
    | hs => (((hs.map fun x => (c.padRef : Int) - (x : Int)).sum).tdiv hs.length, false)

/-- The pad term of a zone (R41). -/
def padTerm (gain dev : Int) : Int := clampTo (-2000) 2000 ((gain * dev).tdiv 16)

/-- The pressure after the pad term (R41). -/
def padPressure (setpoint : Nat) (gain dev : Int) : Int := clampTo 0 12000 (setpoint + padTerm gain dev)

/-- Division by 4096, rounded to nearest, ties away from zero (R42). -/
def round4096 (x : Int) : Int :=
  if 0 ≤ x then ((x.natAbs + 2048) / 4096 : Nat) else -((x.natAbs + 2048) / 4096 : Nat)

/-- The coupling sum of membrane zone z over the other six (R42). -/
def couplingSum (row : Vector Int 7) (z : Nat) (p : List Int) : Int :=
  ((List.range 7).map fun j => if j = z then 0 else (row[j]?).getD 0 * p.getD j 0).sum

/-- The forward pass: each value is limited to the one before it plus Dmax (R44). -/
def clampAfter (dmax prev : Int) : List Int → List Int
  | [] => []
  | x :: xs => min x (prev + dmax) :: clampAfter dmax (min x (prev + dmax)) xs

/-- One pass over a list, in its own order. -/
def clampPass (dmax : Int) : List Int → List Int
  | [] => []
  | x :: xs => x :: clampAfter dmax x xs

/-- The differential clamp: forward, then backward (R44). -/
def diffClamp (dmax : Int) (u : List Int) : List Int := (clampPass dmax (clampPass dmax u).reverse).reverse

/-- The values of one pass of the pipeline, stage by stage, Z1 to Z7 and ZR. -/
structure PipelineValues where
  setpoint : List Nat
  pressure : List Int
  coupled  : List Int
  ranged   : List Int
  final    : List Int
deriving DecidableEq, Repr

/-- The membrane index of a zone. -/
def membraneIndex (z : Zone) : Option (Fin 7) := if h : z.val < 7 then some ⟨z.val, h⟩ else none

/-- Zone z with its pad deviation and pad-stale indicator, in RUNNING and HELD (R40). -/
def withDeviation (c : Conditioner) (conf : ZoneConf) (z : Zone) (x : ZoneState) : ZoneState :=
  if z.val < 7 then
    { x with dev := (padDeviation c conf.padRange).1, stale := (padDeviation c conf.padRange).2 }
  else x

/-- The pressure of zone z after the pad term: off in RAMPDOWN and for ZR (R41). -/
def stagePressure (u : HeadUnit) (rampdown : Bool) (z : Zone) (x : ZoneState) : Int :=
  if rampdown || z.val == 7 then x.setpoint else padPressure x.setpoint u.padGain x.dev

/-- The value of zone z after coupling: off in RAMPDOWN and for ZR (R42). -/
def stageCoupling (u : HeadUnit) (rampdown : Bool) (p : List Int) (z : Zone) : Int :=
  match membraneIndex z with
  | none => p.getD z.val 0
  | some k =>
    if rampdown then p.getD z.val 0 else p.getD z.val 0 - round4096 (couplingSum u.coupling[k] z.val p)

/-- The range clamp of zone z: [Lmin, Lmax], or [0, Lmax] in RAMPDOWN (R43). -/
def stageRange (conf : ZoneConf) (rampdown : Bool) (x : Int) : Int :=
  clampTo (if rampdown then 0 else conf.lmin) conf.lmax x

/-- The head's zones after the ramp (R38) and, unless ramping down, with their deviations (R40). -/
def rampedZones (u : HeadUnit) (c : Conditioner) (a : Nat) (rampdown : Bool) : Vector ZoneState 8 :=
  Vector.ofFn fun z =>
    let x := { u.zones[z] with
      setpoint := ramp u.zones[z].setpoint u.zones[z].target (u.zones[z].rate * a) }
    if rampdown then x else withDeviation c u.zoneConf[z] z x

/-- The stages after the ramp, each finished for all zones before the next begins (R36). -/
def pipeline (u : HeadUnit) (zs : Vector ZoneState 8) (rampdown : Bool) : PipelineValues :=
  let pressure := allZones.map fun z => stagePressure u rampdown z zs[z]
  let coupled := allZones.map (stageCoupling u rampdown pressure)
  let ranged := allZones.map fun z => stageRange u.zoneConf[z] rampdown (coupled.getD z.val 0)
  { setpoint := zs.toList.map (·.setpoint)
    pressure := pressure
    coupled := coupled
    ranged := ranged
    final := diffClamp u.dmax (ranged.take 7) ++ ranged.drop 7 }

/-- A zone takes its command, and its sticky flags where a clamp changed its value (R43 to R45). -/
def ZoneState.output (v : PipelineValues) (z : Zone) (x : ZoneState) : ZoneState :=
  { x with
    command := (v.final.getD z.val 0).toNat
    range := x.range || v.ranged.getD z.val 0 != v.coupled.getD z.val 0
    diff := x.diff || (z.val != 7 && decide (v.final.getD z.val 0 < v.ranged.getD z.val 0)) }

/-- One pass of the pipeline for a head that is RUNNING, HELD or RAMPDOWN (R36). -/
def HeadUnit.runPipeline (c : Conditioner) (a : Nat) (u : HeadUnit) : HeadUnit :=
  let zs := rampedZones u c a (u.mode == .rampdown)
  let v := pipeline u zs (u.mode == .rampdown)
  { u with zones := Vector.ofFn fun z => zs[z].output v z }

/-- The fixed commands of the other states (R37). -/
def HeadUnit.fixedCommands (u : HeadUnit) : HeadUnit :=
  { u with zones := Vector.ofFn fun z =>
      { u.zones[z] with command := if u.mode == .vented then 0 else u.zoneConf[z].release } }

/-! ### Completion (R26, R27, R39) -/

/-- Every ramped setpoint equals its zone's release pressure (R39). -/
def HeadUnit.atRelease (u : HeadUnit) : Bool :=
  allZones.all fun z => u.zones[z].setpoint == u.zoneConf[z].release

/-- The membrane zone of an index. -/
def membrane (k : Fin 7) : Zone := ⟨k.val, by omega⟩

/-- The wafer summary, built from the head's state as it stands (R27, R65). -/
def HeadUnit.buildSummary (u : HeadUnit) : Summary where
  endCause := u.endCause
  stepsExecuted := u.stepsExecuted
  cappedSteps := u.cappedSteps
  waferCycles := u.waferCycles
  condUnavailable := u.condUnavailable
  ringRange := u.zones[7].range
  removal := Vector.ofFn fun k => u.waferAcc[k] / 65536
  range := Vector.ofFn fun k => u.zones[membrane k].range
  diff := Vector.ofFn fun k => u.zones[membrane k].diff
  carried := Vector.replicate 8 false

/-- A head whose ramp-down is at its release pressures enters COMPLETE with a pending summary (R26). -/
def HeadUnit.completeIfDone (u : HeadUnit) : HeadUnit :=
  if u.mode == .rampdown && u.atRelease then { u with mode := .complete, summary := some u.buildSummary }
  else u

/-- The zone computation of a head on a taken outbound frame (R36, R37, R39). -/
def HeadUnit.compute (c : Conditioner) (a : Nat) (u : HeadUnit) : HeadUnit :=
  if u.mode.inUse then (u.runPipeline c a).completeIfDone else u.fixedCommands

/-- The payload of a zone command (section 10.11). -/
def zoneCommandPayload (x : ZoneState) : List Byte := put16 x.command

/-- The head's eight commands written into the slots bound to them (R46). -/
def writeZoneCommands (r : Ring) (h : Head) (u : HeadUnit) (slots : List (List Byte)) : List (List Byte) :=
  allZones.foldl (fun t z => writeBound r (.zoneCommand h z) (zoneCommandPayload u.zones[z]) t) slots

/-! ### The track check (R49, R50) -/

/-- The readback lies outside the zone's track band. -/
def outOfTrackBand (conf : ZoneConf) (x : ZoneState) (readback : Nat) : Bool :=
  decide (conf.trackBand < distance readback x.command)

/-- The track check of one zone with the readback of the frame in hand, where there is one (R49). -/
def trackZone (conf : ZoneConf) (a : Nat) (readback : Option Nat) (x : ZoneState) : ZoneState :=
  match readback with
  | none => x
  | some v =>
    if outOfTrackBand conf x v then { x with track := satAdd conf.trackPersist x.track a }
    else { x with track := 0 }

/-- A zone raises TRACK: counter at its persistence, readback of this frame out of band (R50). -/
def trackRaised (conf : ZoneConf) (readback : Option Nat) (x : ZoneState) : Bool :=
  match readback with
  | none => false
  | some v => x.track == conf.trackPersist && outOfTrackBand conf x v

/-- The track check of a head, with the advance of the matched frame and the readbacks of the frame in hand by
zone (R49, R50). DESIGN CHOICE: for a return that waited while a later outbound frame was taken, the last command is
the one standing when the return is taken up, not the one of the return's own cycle (notes/assumptions/42.md). -/
def trackCheck (a : Nat) (h : Head) (readback : Zone → Option Nat) (s : State) : State :=
  let t := s.modHead h fun u => { u with
    zones := Vector.ofFn fun z => trackZone u.zoneConf[z] a (readback z) u.zones[z] }
  if allZones.any fun z => trackRaised (t.head h).zoneConf[z] (readback z) (t.head h).zones[z] then
    detect (Src.track h) t
  else t

/-- The event TRACK_PERSISTENCE of one zone with an out-of-band readback: it comes about when the head is
RUNNING or HELD and the counter, advanced by the cycle advance in hand, is at its persistence (R50). -/
def trackEvent (h : Head) (z : Zone) (readback : Nat) (s : State) : State :=
  let u := s.head h
  let x := trackZone u.zoneConf[z] s.ring.advance (some readback) u.zones[z]
  if u.mode.inStep && trackRaised u.zoneConf[z] (some readback) x then
    detect (Src.track h) (s.modHead h fun u => { u with zones := u.zones.set z x })
  else s

/-- A zone's track deviation reaches its persistence (R50). -/
def execTrackPersistence (h : Head) (z : Zone) (readback : BitVec 16) (s : State) :
    Host.Outcome State Fault Refusal :=
  .next (whenActive (trackEvent h z readback.toNat) s)

end Sys2Proof.Machine
end

