-- ==== Sys2Proof/Machine/Removal.lean ====
section
/-! DEFINITION. The removal estimator (chapter 3): increments, saturation, REMOVAL_SATURATED. -/

namespace Sys2Proof.Machine

/-- The ceiling of a removal accumulator, 2⁴⁸ − 1 ru (R51). -/
def accMax : Nat := 2 ^ 48 - 1

/-- The increment of a zone in ru; readbacks above their range are taken at its end (R56 to R58). -/
def removalIncrement (pressure velocity presence k a : Nat) : Nat :=
  min 12000 pressure * min 4000 velocity * presence * k * a / 2 ^ 32

/-- The increment of a zone: 0 when its pressure or the head's velocity is absent from the frame (R56, R57). -/
def zoneIncrement (pressure velocity : Option Nat) (presence k a : Nat) : Nat :=
  match pressure, velocity with
  | some e, some v => removalIncrement e v presence k a
  | _, _ => 0

/-- The two accumulators of a zone after its increment, and whether it raises REMOVAL_SATURATED (R59, R60). -/
def addIncrement (inc step wafer : Nat) : (Nat × Nat) × Bool :=
  ((satAdd accMax step inc, satAdd accMax wafer inc),
   decide (0 < inc) && (satAdd accMax step inc == accMax || satAdd accMax wafer inc == accMax))

/-- The seven membrane zones' accumulation on a matched return, a the advance of the matched frame (R54, R58 to
R60). DESIGN CHOICE: of a return that waited while a later outbound frame was taken, the presence factor is the one that
stands when it is taken up, R58's last computed, not the matched cycle's of the table of section 3.4, and the increments
go to the accumulators of the step then in force (notes/assumptions/42.md). -/
def accumulate (a : Nat) (h : Head) (pressure : Zone → Option Nat) (velocity : Option Nat) (s : State) : State :=
  let u := s.head h
  let inc (k : Fin 7) : Nat :=
    zoneIncrement (pressure (membrane k)) velocity s.slurry.presence u.removalK a
  let t := s.modHead h fun u => { u with
    stepAcc := Vector.ofFn fun k => (addIncrement (inc k) u.stepAcc[k] u.waferAcc[k]).1.1
    waferAcc := Vector.ofFn fun k => (addIncrement (inc k) u.stepAcc[k] u.waferAcc[k]).1.2 }
  if [0, 1, 2, 3, 4, 5, 6].any fun k : Fin 7 => (addIncrement (inc k) u.stepAcc[k] u.waferAcc[k]).2 then
    detect (Src.removalSaturated h) t
  else t

end Sys2Proof.Machine
end

