-- ==== Sys2Proof/Machine/Sweep.lean ====
section
/-! DEFINITION. The conditioner sweep controller's commands (chapters 4 and 5): its directives, its counts, the
pad sample, the arm command, arrival, the carriage of a sample, and the events DWELL_END, INTERVAL_TRIGGER and
COND_TRAVERSE_TIMEOUT. -/

namespace Sys2Proof.Machine

/-! ### Directives (R87 to R90) -/

/-- START_SWEEP from PARKED: the start check as if the start request were set (R88, item 5). -/
def startFromParked (s : State) : DirOutcome × State :=
  match s.cond.program with
  | none => (.badArgument, markUnavailable s)
  | some p =>
    if !(s.cond.segmentsOk p) then (.badArgument, markUnavailable s)
    else if !(padAndDisk s) then (.refusedInterlock, markUnavailable s)
    else (.taken, s.setCond ({ s.cond with demand := s.cond.demand.put .tc true }.startProgram p))

/-- START_SWEEP in the middle of a program: a restart in SINGLE_RESTART mode alone (R88, item 3). -/
def restartSweep (s : State) : DirOutcome × State :=
  match s.cond.program with
  | none => (.ignoredState, s)
  | some p =>
    if p.mode = .singleRestart then
      (.taken, s.setCond ({ s.cond with demand := s.cond.demand.put .tc true }.traverseTo p.startSeg))
    else (.ignoredState, s)

/-- START_SWEEP (R88). -/
def actStartSweep (s : State) : DirOutcome × State :=
  if barsSweep s.faults then (.refusedFault, s)
  else match s.cond.mode with
    | .reportHold => (.ignoredState, s)
    | .traverse | .sweeping | .stepWait => restartSweep s
    | .lifting => (.taken, s.setCond { s.cond with demand := s.cond.demand.put .tc true, startReq := true })
    | .parked => startFromParked s

/-- STOP_SWEEP (R89). -/
def actStopSweep (s : State) : DirOutcome × State :=
  if s.cond.demand.has .tc then (.taken, condLeave .tc s) else (.ignoredState, s)

/-- The recorded next segment is traversed to (R84). -/
def Conditioner.stepOn (c : Conditioner) : Conditioner :=
  match c.cont with
  | .stepWait k => c.traverseTo k
  | _ => c

/-- The program's trigger set has this trigger. -/
def Conditioner.trigger (c : Conditioner) (which : Program → Bool) : Bool :=
  match c.program with
  | none => false
  | some p => which p

/-- STEP (R90). -/
def actStep (s : State) : DirOutcome × State :=
  if s.cond.mode == .stepWait && s.cond.trigger (·.trigDirective) then (.taken, s.setCond s.cond.stepOn)
  else (.ignoredState, s)

/-- A taken directive's outcome, with its count, replaces the conditioner's last (R87). -/
def recordCond (count : BitVec 4) (r : DirOutcome × State) : State :=
  r.2.setCond { r.2.cond with dirCount := some count, outcome := some r.1 }

/-- A directive taken by the conditioner. -/
def takeCond (act : State → DirOutcome × State) (count : BitVec 4) (s : State) : State :=
  recordCond count (act s)

/-! ### The pad sample (R92, R93, R96, R98) -/

/-- The readback store's conditioner entry: arm radius, gauge height, taken marker. -/
def condReadback (s : State) : Readback := s.ring.store[rbIndex .conditioner]

/-- The continuation chosen at the end of a dwell of segment k (R74, R81). -/
def chooseContinuation (p : Program) (count k : Nat) : Continuation :=
  if k = p.endSeg then
    match p.mode with
    | .single | .singleRestart => .lifting
    | .continuous => .traverse p.startSeg
    | .stepped => .stepWait p.startSeg
  else
    let next := if k + 1 = count then 0 else k + 1
    match p.mode with
    | .stepped => .stepWait next
    | _ => .traverse next

/-- The capture: a new sequence number, and the profile entry at age 0 (R92, R93, R96). -/
def Conditioner.capture (height : Nat) (k : Nat) (c : Conditioner) : Conditioner :=
  { c with seq := c.seq + 1, profile := c.profile.setIfInBounds k (some ⟨height, 0⟩) }

/-- The offer of a captured sample (R98), then the continuation (R81). -/
def Conditioner.offer (x : PadSample) (report : ReportMode) (c : Conditioner) : Conditioner :=
  match c.pendingSample, report with
  | some _, .protect => { c with stagedSample := some x, mode := .reportHold, fresh := true }
  | _, _ => { c with pendingSample := some x }.takeContinuation

/-- The end of the dwell of segment k (R80, R81, R92). With no gauge height ever taken there is no sample. -/
def endDwell (p : Program) (k : Nat) (s : State) : State :=
  let c := { s.cond with cont := chooseContinuation p s.cond.segCount k, leg := none }
  if (condReadback s).taken then
    let height := min 5000 (condReadback s).second
    let c := c.capture height k
    s.setCond (c.offer ⟨k, height, c.seq, s.ring.last.getD 0⟩ p.report)
  else s.setCond c.takeContinuation

/-! ### The counts of the outbound pass (R75, R79, R80, R84) -/

/-- The traverse timer advances, and times out once in a traverse (R79). -/
def advanceTraverse (p : Program) (s : State) : State :=
  let c := { s.cond with traverse := satAdd p.traverseLimit s.cond.traverse s.ring.advance }
  if c.traverse == p.traverseLimit && !c.timeoutMark then
    detect Src.condTraverseTimeout (s.setCond { c with timeoutMark := true })
  else s.setCond c

/-- The current segment with its number, where there is one and it is defined. -/
def Conditioner.currentSegment (c : Conditioner) : Option (Nat × Segment) :=
  match c.current with
  | none => none
  | some k => (c.segment k).map fun x => (k, x)

/-- The dwell counter advances, and the dwell may end (R80). -/
def advanceDwell (p : Program) (s : State) : State :=
  let t := s.setCond { s.cond with dwell := satAdd 65535 s.cond.dwell s.ring.advance }
  match t.cond.currentSegment with
  | none => t
  | some (k, x) => if x.dwell ≤ t.cond.dwell then endDwell p k t else t

/-- The interval counter advances, and the INTERVAL trigger may act (R84). -/
def advanceInterval (p : Program) (s : State) : State :=
  let c := { s.cond with interval := satAdd 65535 s.cond.interval s.ring.advance }
  if p.trigInterval && decide (p.interval ≤ c.interval) then s.setCond c.stepOn else s.setCond c

/-- Step 2 of R75: the count of the state the conditioner is in, unless it was entered on this frame. -/
def advanceCounts (s : State) : State :=
  match s.cond.program with
  | none => s
  | some p =>
    if s.cond.fresh then s
    else match s.cond.mode with
      | .traverse => advanceTraverse p s
      | .sweeping => advanceDwell p s
      | .stepWait => advanceInterval p s
      | _ => s

/-! ### The arm command (R76, R77) -/

/-- The current segment's fields; no state a run reaches in TRAVERSE or SWEEPING lacks a defined one. -/
def Conditioner.segmentInForce (c : Conditioner) : Segment :=
  match c.currentSegment with
  | none => ⟨0, 0, 0, 0, 0⟩
  | some (_, x) => x

/-- The arm resting lifted in STEP_WAIT and REPORT_HOLD: the stored radius, and the last command's speed. -/
def restCommand (s : State) : ArmCommand :=
  { radius := if (condReadback s).taken then (condReadback s).value else
      match s.cond.lastCmd with
      | none => (Config.freeRadius s.free).toNat
      | some l => l.radius
    force := 0
    speed := match s.cond.lastCmd with
      | none => (Config.freeDiskSpeed s.free).toNat
      | some l => l.speed }

/-- The command of the state the conditioner is in (the table of R76). -/
def armCommand (p : Program) (s : State) : ArmCommand :=
  let x := s.cond.segmentInForce
  match s.cond.mode with
  | .parked | .lifting => ⟨p.parkRadius, 0, 0⟩
  | .traverse => ⟨x.startRadius, 0, x.diskSpeed⟩
  | .sweeping => ⟨if s.cond.leg = some .toStart then x.startRadius else x.endRadius, x.downForce, x.diskSpeed⟩
  | .stepWait | .reportHold => restCommand s

/-- The payload of an arm command (section 10.11). -/
def armPayload (x : ArmCommand) : List Byte := put16 x.radius ++ put16 x.force ++ [toByte x.speed]

/-- Step 3 of R75: the command is written and becomes the last command (R76, R77). While the program is
undefined nothing is written. -/
def writeArm (s : State) (slots : List (List Byte)) : State × List (List Byte) :=
  match s.cond.program with
  | none => (s, slots)
  | some p =>
    ({ s.setCond { s.cond with lastCmd := some (armCommand p s) } with free := s.free + 1 },
     writeBound s.ring .condCommand (armPayload (armCommand p s)) slots)

/-! ### The return pass (R78 to R80, R82, R83, R99) -/

/-- The target radius of the state the conditioner is in, as the arrival check uses it (R78). -/
def arrivalTarget (p : Program) (s : State) : Nat := (armCommand p s).radius

/-- An arrival (R79, R80, R83). -/
def arrive (s : State) : State :=
  match s.cond.mode with
  | .traverse => s.setCond { s.cond with mode := .sweeping, fresh := true, dwell := 0, leg := some .toEnd }
  | .sweeping =>
    s.setCond { s.cond with leg := if s.cond.leg = some .toStart then some .toEnd else some .toStart }
  | .lifting =>
    tryStart (s.setCond { s.cond with mode := .parked, fresh := true, cont := .none, leg := none })
  | _ => s

/-- The states in which arrival is checked (R78). -/
def CondMode.checksArrival (m : CondMode) : Bool := m == .traverse || m == .sweeping || m == .lifting

/-- The arrival check with the arm radius of the frame in hand, where there is one (R78). `atArrival` is the
conditioner's state at the frame's arrival. DESIGN CHOICE: a return that waited is compared with the target of the state
in which it is taken up (notes/assumptions/42.md). -/
def arrivalCheck (atArrival : CondMode) (radius : Option Nat) (s : State) : State :=
  match radius, s.cond.program with
  | some v, some p =>
    if atArrival.checksArrival && s.cond.mode.checksArrival &&
        decide (distance v (arrivalTarget p s) ≤ p.tolerance) then arrive s
    else s
  | _, _ => s

/-- The carriage of the pending sample: the staged one is promoted and REPORT_HOLD ends (R82, R99). -/
def Conditioner.carry (c : Conditioner) : Conditioner :=
  match c.pendingSample, c.stagedSample with
  | none, _ => c
  | some _, none => { c with pendingSample := none }
  | some _, some x => { c with pendingSample := some x, stagedSample := none }.takeContinuation

/-! ### The events as commands of their own -/

/-- The traverse timer, advanced by the cycle advance in hand, reaches the limit with the mark clear (R79). -/
def timeoutEvent (s : State) : State :=
  match s.cond.program with
  | none => s
  | some p =>
    if s.cond.mode == .traverse && !s.cond.timeoutMark &&
        decide (p.traverseLimit ≤ s.cond.traverse + s.ring.advance) then advanceTraverse p s
    else s

/-- The dwell counter, advanced by the cycle advance in hand, reaches the segment's dwell (R80). -/
def dwellEvent (s : State) : State :=
  match s.cond.program, s.cond.currentSegment with
  | some p, some (_, x) =>
    if s.cond.mode == .sweeping && decide (x.dwell ≤ satAdd 65535 s.cond.dwell s.ring.advance) then
      advanceDwell p s
    else s
  | _, _ => s

/-- The interval counter, advanced by the cycle advance in hand, reaches the program's interval (R84). -/
def intervalEvent (s : State) : State :=
  match s.cond.program with
  | none => s
  | some p =>
    if s.cond.mode == .stepWait && p.trigInterval &&
        decide (p.interval ≤ satAdd 65535 s.cond.interval s.ring.advance) then advanceInterval p s
    else s

/-! ### The meanings -/

/-- The conditioner directive START_SWEEP (R88). -/
def execStartSweep (count : BitVec 4) (s : State) : Host.Outcome State Fault Refusal :=
  .next (whenActive (takeCond actStartSweep count) s)

/-- The conditioner directive STOP_SWEEP (R89). -/
def execStopSweep (count : BitVec 4) (s : State) : Host.Outcome State Fault Refusal :=
  .next (whenActive (takeCond actStopSweep count) s)

/-- The conditioner directive STEP (R90). -/
def execStep (count : BitVec 4) (s : State) : Host.Outcome State Fault Refusal :=
  .next (whenActive (takeCond actStep count) s)

/-- The traverse timer reaches the traverse limit (R79). -/
def execCondTraverseTimeout (s : State) : Host.Outcome State Fault Refusal :=
  .next (whenActive timeoutEvent s)

/-- The dwell counter reaches the segment's dwell (R80). -/
def execDwellEnd (s : State) : Host.Outcome State Fault Refusal := .next (whenActive dwellEvent s)

/-- The interval counter reaches the program's interval (R84). -/
def execIntervalTrigger (s : State) : Host.Outcome State Fault Refusal := .next (whenActive intervalEvent s)

end Sys2Proof.Machine
end

