-- ==== Sys2Proof/Machine/SlurryCommands.lean ====
section
/-! DEFINITION. The slurry blend controller's commands (chapter 6): SELECT and RELEASE, the decision of the
heads' claims, flows, delay lines, presence factor, duties, the flow check with its event FLOW_PERSISTENCE. -/

namespace Sys2Proof.Machine

/-! ### Directives (R114, R115) -/

/-- The blend entry of an index, where it is defined. -/
def Slurry.entry (x : Slurry) (n : Nat) : Option Blend := (x.blends[n]?).join

/-- SELECT n: the tool controller's claim (R114). -/
def actSelect (n : Nat) (s : State) : DirOutcome × State :=
  if (s.slurry.entry n).isNone then (.badArgument, s)
  else if s.slurry.canGrant .tc n then
    (.taken, examineIfChanged s (setBlend (some n) (s.slurry.owners.put .tc true) s))
  else (.ignoredState, s)

/-- RELEASE (R115). -/
def actRelease (s : State) : DirOutcome × State :=
  if s.slurry.owners.has .tc then (.taken, leaveOwners .tc s) else (.ignoredState, s)

/-- A taken directive's outcome, with its count, replaces the last (R114). -/
def recordSlurry (count : BitVec 4) (r : DirOutcome × State) : State :=
  r.2.setSlurry { r.2.slurry with dirCount := some count, outcome := some r.1 }

/-- A directive taken by the slurry controller. -/
def takeSlurry (act : State → DirOutcome × State) (count : BitVec 4) (s : State) : State :=
  recordSlurry count (act s)

/-! ### The heads' claims of a frame (R111) -/

/-- A claim that cannot be granted waits: out of the owner set, BLEND_WAIT, HELD (R20, R111). -/
def claimWaits (h : Head) (n : Nat) (s : State) : State :=
  let t := s.setSlurry (s.slurry.setWait h (some n))
  let t := t.modHead h fun u => { u with mode := .held, causes := { u.causes with blendWait := true } }
  leaveOwners (.head h) t

/-- The undecided claim of a head is decided (R111). -/
def decideClaim (h : Head) (s : State) : State :=
  match s.slurry.undecided h with
  | none => s
  | some n =>
    let t := s.setSlurry (s.slurry.setUndecided h none)
    if t.slurry.canGrant (.head h) n then examineIfChanged t (grantHeadWith examine h n t)
    else claimWaits h n t

/-! ### Flows, delay lines, presence factor, duties (R118, R119, R121, R122) -/

/-- The commanded flow of a channel (R118). -/
def commandedFlow (x : Slurry) (c : Channel) : Nat :=
  match x.blend with
  | none => 0
  | some n =>
    match x.entry n with
    | none => 0
    | some b => b.total * b.ratios[c] / 256

/-- The delay line after `a` pushes of q, and the value the last push removed (R119). -/
def pushFlow (q a : Nat) (line : List Nat) : List Nat × Nat :=
  ((line ++ List.replicate a q).drop a, (line ++ List.replicate a q).getD (a - 1) q)

/-- The flows of a pass for one channel. -/
def ChannelFlow.pass (q a : Nat) (f : ChannelFlow) : ChannelFlow :=
  { f with q := q, line := (pushFlow q a f.line).1, arrived := (pushFlow q a f.line).2 }

/-- The arrived abrasive flow (R121). -/
def abrasiveFlow (x : Slurry) : Nat :=
  (allChannels.map fun c => if x.channels[c].abrasive then x.flows[c].arrived else 0).sum

/-- The presence factor (R121). -/
def presenceFactor (x : Slurry) : Nat := min 256 (256 * abrasiveFlow x / x.abrasiveRef)

/-- The quotient of R122 before its limit. -/
def dutyQuotient (k : ChannelConf) (q : Nat) : Nat := q * 2 ^ k.resolution / k.fullScale

/-- The duty of a channel (R122). -/
def duty (k : ChannelConf) (q : Nat) : Nat := min (2 ^ k.resolution) (dutyQuotient k q)

/-- The duty was limited (R122). -/
def dutyLimited (k : ChannelConf) (q : Nat) : Bool := decide (2 ^ k.resolution < dutyQuotient k q)

/-- Steps 3 to 5 of R117. -/
def Slurry.passFlows (a : Nat) (x : Slurry) : Slurry :=
  let y := { x with flows := Vector.ofFn fun c => (x.flows[c]).pass (commandedFlow x c) a }
  { y with presence := presenceFactor y }

/-- Step 6 of R117: duties into the pulse buffers, flow-limited flags set (R122, R132). -/
def writeDuties (s : State) : State :=
  let x := s.slurry
  (s.setSlurry { x with flows := Vector.ofFn fun c =>
      { x.flows[c] with limited := x.flows[c].limited || dutyLimited x.channels[c] x.flows[c].q } }).setPulse
    { s.pulse with ch := Vector.ofFn fun c =>
      { s.pulse.ch[c] with buffer := duty x.channels[c] x.flows[c].q } }

/-- Steps 3 to 6 of R117. -/
def flowPass (s : State) : State := writeDuties (s.setSlurry (s.slurry.passFlows s.ring.advance))

/-! ### The flow check (R123, R124) -/

/-- The readback lies outside the channel's flow band. -/
def outOfFlowBand (k : ChannelConf) (f : ChannelFlow) (readback : Nat) : Bool :=
  decide (k.flowBand < distance readback f.q)

/-- The flow check of one channel with the readback of the frame in hand, where there is one (R123). DESIGN CHOICE: of a
return that waited while a later outbound frame was taken, q is the flow that pass left, R123's last outbound pass, not
the one of the return's own cycle (notes/assumptions/42.md). -/
def checkFlow (k : ChannelConf) (a : Nat) (readback : Option Nat) (f : ChannelFlow) : ChannelFlow :=
  match readback with
  | none => f
  | some v =>
    if !k.flowCheck then f
    else if outOfFlowBand k f v then { f with dev := satAdd k.flowPersist f.dev a }
    else { f with dev := 0 }

/-- A channel raises FLOW_DEVIATION (R124). -/
def flowRaised (k : ChannelConf) (readback : Option Nat) (f : ChannelFlow) : Bool :=
  match readback with
  | none => false
  | some v => k.flowCheck && f.dev == k.flowPersist && outOfFlowBand k f v

/-- The flow check, with the advance of the matched frame and the readbacks of the frame in hand by channel (R123,
R124). -/
def flowCheck (a : Nat) (readback : Channel → Option Nat) (s : State) : State :=
  let x := s.slurry
  let flows : Vector ChannelFlow 4 := Vector.ofFn fun c => checkFlow x.channels[c] a (readback c) x.flows[c]
  let t := s.setSlurry { x with flows := flows }
  if allChannels.any fun c => flowRaised x.channels[c] (readback c) flows[c] then detect Src.flowDeviation t
  else t

/-- The event FLOW_PERSISTENCE of one channel with an out-of-band readback: it comes about when the counter,
advanced by the cycle advance in hand, is at its persistence (R124). -/
def flowEvent (c : Channel) (readback : Nat) (s : State) : State :=
  let x := s.slurry
  let f := checkFlow x.channels[c] s.ring.advance (some readback) x.flows[c]
  if flowRaised x.channels[c] (some readback) f then
    detect Src.flowDeviation (s.setSlurry { x with flows := x.flows.set c f })
  else s

/-! ### The meanings -/

/-- The slurry directive SELECT (R114). -/
def execSelect (count : BitVec 4) (blend : Byte) (s : State) : Host.Outcome State Fault Refusal :=
  .next (whenActive (takeSlurry (actSelect blend.toNat) count) s)

/-- The slurry directive RELEASE (R115). -/
def execRelease (count : BitVec 4) (s : State) : Host.Outcome State Fault Refusal :=
  .next (whenActive (takeSlurry actRelease count) s)

/-- A channel's flow deviation reaches its persistence (R124). -/
def execFlowPersistence (c : Channel) (readback : BitVec 16) (s : State) : Host.Outcome State Fault Refusal :=
  .next (whenActive (flowEvent c readback.toNat) s)

end Sys2Proof.Machine
end

