-- ==== Sys2Proof/Machine/PulseCommands.lean ====
section
/-! DEFINITION. The dispense pulse unit's own events (chapter 7): counting, the wrap, the compare match, and
the level of the output pins. -/

namespace Sys2Proof.Machine

/-- The wrap at a period's end (R130). -/
def PulseChannel.wrap (x : PulseChannel) : PulseChannel :=
  { x with counter := 0, phase := 0, compare := x.buffer, first := false, active := decide (0 < x.buffer) }

/-- The counter advances by one within a period; at the compare value the output becomes inactive, unless the
first-period mark is set (R129, R131). -/
def PulseChannel.count (x : PulseChannel) : PulseChannel :=
  { x with counter := x.counter + 1, phase := 0,
           active := x.active && (x.first || x.counter + 1 != x.compare) }

/-- The counter advances: it wraps after 2^b − 1 (R130). -/
def PulseChannel.advance (resolution : Nat) (x : PulseChannel) : PulseChannel :=
  if 2 ^ resolution ≤ x.counter + 1 then x.wrap else x.count

/-- One µs of the local time base: the counter advances once every prescale µs while running (R130). -/
def PulseChannel.tick (k : ChannelConf) (x : PulseChannel) : PulseChannel :=
  if x.running then
    if k.prescale ≤ x.phase + 1 then x.advance k.resolution else { x with phase := x.phase + 1 }
  else x

/-- The level of the pin POc: the active level while the output is active, else its opposite (R127). -/
def poPin (s : State) (c : Channel) : Bool :=
  if s.pulse.ch[c].active then s.slurry.channels[c].activeHigh else !s.slurry.channels[c].activeHigh

/-- Change one pulse channel. -/
def modChannel (c : Channel) (f : PulseChannel → PulseChannel) (s : State) : State :=
  s.setPulse { s.pulse with ch := s.pulse.ch.set c (f s.pulse.ch[c]) }

/-- The event COUNTER_WRAP: the time of a running channel passes to its wrap (R130). -/
def wrapEvent (c : Channel) (s : State) : State :=
  if s.pulse.ch[c].running then modChannel c PulseChannel.wrap s else s

/-- The event COMPARE_MATCH: the time of a running channel passes to the count equal to the compare, where that
count lies ahead in a period after the first (R131). -/
def matchEvent (c : Channel) (s : State) : State :=
  let x := s.pulse.ch[c]
  if x.running && !x.first && decide (x.counter < x.compare) &&
      decide (x.compare < 2 ^ s.slurry.channels[c].resolution) then
    modChannel c (fun x => { x with counter := x.compare, phase := 0, active := false }) s
  else s

/-- A running pulse counter wraps (R130). -/
def execCounterWrap (c : Channel) (s : State) : Host.Outcome State Fault Refusal :=
  .next (whenActive (wrapEvent c) s)

/-- A running pulse counter reaches the compare value outside the first period (R131). -/
def execCompareMatch (c : Channel) (s : State) : Host.Outcome State Fault Refusal :=
  .next (whenActive (matchEvent c) s)

end Sys2Proof.Machine
end

