-- ==== Sys2Proof/Machine/InputCommands.lean ====
section
/-! DEFINITION. The discrete input filter (chapter 8): samples, acceptance, the first settling, and what each
accepted edge drives. -/

namespace Sys2Proof.Machine

/-- The polarity of section 8.1: LEAK is asserted at the low level, every other input at the high level. -/
def translate (n : InputId) (pin : Bool) : Bool := if n = Di.leak then !pin else pin

/-- The sampling interval of a rate in µs. -/
def DiRate.interval : DiRate → Option Nat
  | .off => none | .us10 => some 10 | .us100 => some 100 | .us1000 => some 1000

/-! ### What an edge drives (the table of R143) -/

/-- ESTOP_OK falls (R144). -/
def edgeEstopFalling (s : State) : State := detect Src.estopChain s

/-- A head is RUNNING, HELD or RAMPDOWN, or the conditioner is away from PARKED (R145). -/
def platenInUse (s : State) : Bool := s.headA.mode.inUse || s.headB.mode.inUse || s.cond.mode != .parked

/-- DOOR_CLOSED falls (R145). -/
def edgeDoorFalling (s : State) : State := if platenInUse s then detect Src.doorOpen s else s

/-- LEAK rises (R144). -/
def edgeLeakRising (s : State) : State := detect Src.slurryLeak s

/-- PAD_PRESENT falls: the profile is invalid, PAD_ABSENT is set (R97, R144). -/
def edgePadFalling (s : State) : State :=
  detect Src.padAbsent (s.setCond { s.cond with profile := Vector.replicate 32 none })

/-- PAD_PRESENT or DISK_PRESENT rises: the start check, where its condition holds (R73). -/
def edgePresenceRising (s : State) : State := tryStart s

/-- DISK_PRESENT falls (R144). -/
def edgeDiskFalling (s : State) : State := detect Src.diskAbsent s

/-- PLATEN_INDEX rises: a trigger of STEP_WAIT (R84). -/
def edgeIndexRising (s : State) : State :=
  if s.cond.mode == .stepWait && s.cond.trigger (·.trigPlatenIndex) then s.setCond s.cond.stepOn else s

/-- A head's wafer input falls (R30). -/
def edgeWaferFalling (h : Head) (s : State) : State :=
  if (s.head h).mode.inUse then detect (Src.waferLoss h) s else s

/-- The edge of input n to level v is presented to the blocks that use it (R143). -/
def presentEdge (n : InputId) (v : Bool) (s : State) : State :=
  match n, v with
  | 0, false => edgeEstopFalling s
  | 1, false => edgeDoorFalling s
  | 2, true => edgeLeakRising s
  | 3, false => edgePadFalling s
  | 3, true => edgePresenceRising s
  | 4, false => edgeDiskFalling s
  | 4, true => edgePresenceRising s
  | 5, true => edgeIndexRising s
  | 6, false => edgeWaferFalling .a s
  | 7, false => edgeWaferFalling .b s
  | _, _ => s

/-! ### Acceptance (R141 to R143) -/

/-- The accepted level becomes v: an edge when it was the other level, else the first settling or no change. In
pass-through address an edge is presented to no block (R147). -/
def acceptLevel (n : InputId) (v : Bool) (s : State) : State :=
  let t := s.setInput n { s.inputs[n] with accepted := some v }
  if s.inputs[n].accepted == some (!v) && !passThrough s then presentEdge n v t else t

/-- A sample joins the history, newest last, the oldest of three removed (R141). -/
def pushSample (hist : List Bool) (v : Bool) : List Bool := (hist ++ [v]).drop (hist.length + 1 - 3)

/-- The common value of three equal samples. -/
def agreed : List Bool → Option Bool
  | [x, y, z] => if x = y ∧ y = z then some x else none
  | _ => none

/-- One sample of an input under a sampling rate, and the acceptance test (R141). DESIGN CHOICE: INPUT_SAMPLE commanded
before the interval is over takes the sample at once, and the next interval counts from it (notes/assumptions/41.md). -/
def takeSample (n : InputId) (pin : Bool) (s : State) : State :=
  let hist := pushSample s.inputs[n].history (translate n pin)
  let t := s.setInput n { s.inputs[n] with history := hist, timer := 0, pin := pin }
  match agreed hist with
  | none => t
  | some v => acceptLevel n v t

/-- The pin of an input whose rate is OFF has this level: it is accepted at once (R141). -/
def followPin (n : InputId) (pin : Bool) (s : State) : State :=
  acceptLevel n (translate n pin) (s.setInput n { s.inputs[n] with pin := pin })

/-- INPUT_SAMPLE: a sample under a sampling rate, at once (notes/assumptions/41.md); with the rate OFF no sample is
taken and the pin is followed (notes/assumptions/29.md). -/
def sampleEvent (n : InputId) (pin : Bool) (s : State) : State :=
  match s.inputs[n].rate with
  | .off => followPin n pin s
  | _ => takeSample n pin s

/-- What the acceptance of level v leaves of the filter: its pin at that level and, under a sampling rate,
three equal samples of which the last has just been taken (R141). -/
def Input.accepting (n : InputId) (v : Bool) (x : Input) : Input :=
  match x.rate with
  | .off => { x with pin := translate n v }
  | _ => { x with pin := translate n v, history := [v, v, v], timer := 0 }

/-- The event that level v is accepted; `was` is the accepted level it needs: the other one for an edge, none
for the first settling. -/
def acceptEvent (was : Option Bool) (n : InputId) (v : Bool) (s : State) : State :=
  if s.inputs[n].accepted = was then acceptLevel n v (s.setInput n (s.inputs[n].accepting n v)) else s

/-- An accepted edge to level v. -/
def edgeEvent (n : InputId) (v : Bool) (s : State) : State := acceptEvent (some (!v)) n v s

/-- The input and level of an edge that drives no block. -/
def quietEdge : QuietEdge → InputId × Bool
  | .estopRising => (Di.estopOk, true)
  | .doorRising => (Di.doorClosed, true)
  | .leakFalling => (Di.leak, false)
  | .platenIndexFalling => (Di.platenIndex, false)
  | .waferRising h => (Di.wafer h, true)

/-! ### The meanings -/

/-- An input first leaves UNSETTLED (R142). -/
def execFirstSettling (n : InputId) (pin : Bool) (s : State) : Host.Outcome State Fault Refusal :=
  .next (acceptEvent none n (translate n pin) s)

/-- An accepted falling edge of ESTOP_OK (R144). -/
def execEstopOkFalling (s : State) : Host.Outcome State Fault Refusal := .next (edgeEvent Di.estopOk false s)

/-- An accepted falling edge of DOOR_CLOSED (R145). -/
def execDoorClosedFalling (s : State) : Host.Outcome State Fault Refusal :=
  .next (edgeEvent Di.doorClosed false s)

/-- An accepted rising edge of LEAK (R144). -/
def execLeakRising (s : State) : Host.Outcome State Fault Refusal := .next (edgeEvent Di.leak true s)

/-- An accepted falling edge of PAD_PRESENT (R97, R144). -/
def execPadPresentFalling (s : State) : Host.Outcome State Fault Refusal :=
  .next (edgeEvent Di.padPresent false s)

/-- An accepted rising edge of PAD_PRESENT (R73). -/
def execPadPresentRising (s : State) : Host.Outcome State Fault Refusal :=
  .next (edgeEvent Di.padPresent true s)

/-- An accepted falling edge of DISK_PRESENT (R144). -/
def execDiskPresentFalling (s : State) : Host.Outcome State Fault Refusal :=
  .next (edgeEvent Di.diskPresent false s)

/-- An accepted rising edge of DISK_PRESENT (R73). -/
def execDiskPresentRising (s : State) : Host.Outcome State Fault Refusal :=
  .next (edgeEvent Di.diskPresent true s)

/-- An accepted rising edge of PLATEN_INDEX (R84). -/
def execPlatenIndexRising (s : State) : Host.Outcome State Fault Refusal :=
  .next (edgeEvent Di.platenIndex true s)

/-- An accepted falling edge of a head's wafer input (R30). -/
def execWaferPresentFalling (h : Head) (s : State) : Host.Outcome State Fault Refusal :=
  .next (edgeEvent (Di.wafer h) false s)

/-- An accepted edge that drives no block (R143). -/
def execInputEdge (e : QuietEdge) (s : State) : Host.Outcome State Fault Refusal :=
  .next (edgeEvent (quietEdge e).1 (quietEdge e).2 s)

/-- The filter takes one sample of an input (R141). -/
def execInputSample (n : InputId) (pin : Bool) (s : State) : Host.Outcome State Fault Refusal :=
  .next (sampleEvent n pin s)

end Sys2Proof.Machine
end

