-- ==== Sys2Proof/Machine/RingOps.lean ====
section
/-! DEFINITION. The ring interface's own operations (chapter 10): forwarding, cycle advance, readback ages and
the stale test, the readbacks of a return, the frame gap timer; and the events READBACK_AGE_STALE and
FRAME_GAP. -/

namespace Sys2Proof.Machine

/-! ### Forwarding (R167) -/

/-- A frame leaves at port D. -/
def sendD (f : List Byte) (s : State) : State := s.setRing { s.ring with outD := some f }

/-- A frame leaves at port U. -/
def sendU (f : List Byte) (s : State) : State := s.setRing { s.ring with outU := some f }

/-- A frame that arrived at a port leaves at the opposite one. -/
def forward (p : Port) (f : List Byte) (s : State) : State :=
  match p with
  | .u => sendD f s
  | .d => sendU f s

/-- A corrupt frame: forwarded with a forced-bad CRC, CORRUPT_FRAME set, nothing taken (R169). -/
def takeCorrupt (p : Port) (f : List Byte) (s : State) : State :=
  detect Src.corruptFrame (forward p (forcedBad f) s)

/-! ### Readback ages (R176) -/

/-- The readback binding is bound by the slot map. -/
def readbackBound (r : Ring) (k : ReadbackId) : Bool := (slotFor r (.readback k)).isSome

/-- The owner of a readback binding is in use (the table of R176). -/
def ownerInUse (s : State) : ReadbackId → Bool
  | .zone h _ => (s.head h).mode.inUse
  | .velocity h => (s.head h).mode.inUse
  | .conditioner => s.cond.mode != .parked
  | .flow _ => s.slurry.blend.isSome

/-- The fault source of a stale readback (the table of R176). -/
def staleSource : ReadbackId → SourceId
  | .zone h _ => Src.readbackStale h
  | .velocity h => Src.readbackStale h
  | .conditioner => Src.readbackStalePlaten
  | .flow _ => Src.readbackStalePlaten

/-- One entry of the readback store replaced. -/
def setReadback (k : ReadbackId) (x : Readback) (s : State) : State :=
  s.setRing { s.ring with store := s.ring.store.set (rbIndex k) x }

/-- The stored entry of a readback binding. -/
def storedReadback (s : State) (k : ReadbackId) : Readback := s.ring.store[rbIndex k]

/-- The age of one bound readback advances by 1, saturating at 255. -/
def ageReadback (k : ReadbackId) (s : State) : State :=
  if readbackBound s.ring k then
    setReadback k { storedReadback s k with age := satAdd 255 (storedReadback s k).age 1 } s
  else s

/-- A bound binding is stale and its owner is in use. -/
def isStale (s : State) (k : ReadbackId) : Bool :=
  readbackBound s.ring k && decide (s.ring.staleLimit < (storedReadback s k).age) && ownerInUse s k

/-- The stale test of one binding (R176). -/
def staleTest (k : ReadbackId) (s : State) : State := if isStale s k then detect (staleSource k) s else s

/-- The event READBACK_AGE_STALE: the binding's age, advanced by the frame, is past the limit (R176). -/
def staleEvent (k : ReadbackId) (s : State) : State :=
  if isStale (ageReadback k s) k then detect (staleSource k) (ageReadback k s) else s

/-- Every bound readback ages, and then the stale test is made, binding by binding in code order (R176). -/
def ageAndTest (s : State) : State :=
  allReadbacks.foldl (fun t k => staleTest k t) (allReadbacks.foldl (fun t k => ageReadback k t) s)

/-! ### The cycle advance (R95, R170, R171) -/

/-- The age of a valid pad profile entry advances by a, saturating at 65535 (R95). -/
def agePad (a : Nat) (e : Option PadEntry) : Option PadEntry :=
  e.map fun p => { p with age := satAdd 65535 p.age a }

/-- The moment of an arrival in this state. -/
def arrivalOf (s : State) : Arrival := ⟨s.ring.last, s.ring.advance, s.headA.mode, s.headB.mode, s.cond.mode⟩

/-- The state of a head at an arrival. -/
def Arrival.mode (v : Arrival) : Head → HeadMode
  | .a => v.modeA
  | .b => v.modeB

/-- Wafer cycles run advances on a frame on whose arrival the head is RUNNING, HELD or RAMPDOWN (R27), and the
model's mark of a step entered on this frame is cleared. -/
def HeadUnit.arrive (a : Nat) (atArrival : HeadMode) (u : HeadUnit) : HeadUnit :=
  { u with
    fresh := false
    waferCycles := if atArrival.inUse then satAdd (2 ^ 32 - 1) u.waferCycles a else u.waferCycles }

/-- What the cycle advance of a taken frame does before any block takes a directive: the counts of R27, the
pad ages of R95, and the number and advance of R170. A conditioner that has left the state of the arrival counts
as in a state entered on this frame (R75). -/
def establish (n : BitVec 16) (a : Nat) (v : Arrival) (s : State) : State :=
  let t := (s.modHead .a (HeadUnit.arrive a v.modeA)).modHead .b (HeadUnit.arrive a v.modeB)
  let t := t.setCond { t.cond with
    fresh := v.cond != t.cond.mode, profile := Vector.ofFn fun k => agePad a t.cond.profile[k] }
  t.setRing { t.ring with last := some n, advance := a }

/-- The difference of a cycle number from the last taken one (R170). -/
def cycleDifference (last n : BitVec 16) : Nat := (n - last).toNat

/-- A frame's cycle number is judged: none for a duplicate, else the advance and whether it is a discontinuity
(R170). -/
def judgeCycle (last : Option (BitVec 16)) (n : BitVec 16) : Option (Nat × Bool) :=
  match last with
  | none => some (1, false)
  | some m =>
    if cycleDifference m n = 0 then none
    else if cycleDifference m n ≤ 8 then some (cycleDifference m n, false)
    else some (1, true)

/-- A taken frame up to the handing out of its slots (R170, R171). DESIGN CHOICE: on a frame that is a discontinuity and
finds stale readbacks the status of CYCLE_DISCONTINUITY is set, and the taking rule applied, before the stale tests;
R170, R171 and R176 leave their order open (notes/assumptions/43.md). -/
def beginFrame (n : BitVec 16) (a : Nat) (discontinuity : Bool) (v : Arrival) (s : State) : State :=
  let t := establish n a v s
  ageAndTest (if discontinuity then detect Src.cycleDiscontinuity t else t)

/-! ### The frame gap timer (R180) -/

/-- A valid cycle frame at port U arms and restarts the timer. -/
def restartGap (s : State) : State := s.setRing { s.ring with gap := .running 0 }

/-- The timer expires: the status is set and the timer stops. -/
def expireGap (s : State) : State := detect Src.frameGap (s.setRing { s.ring with gap := .expired })

/-- The event FRAME_GAP: the time of a running timer passes to its expiry. -/
def gapEvent (s : State) : State :=
  match s.ring.gap with
  | .running _ => expireGap s
  | _ => s

/-- One µs on the timer. -/
def tickGap (s : State) : State :=
  match s.ring.gap with
  | .running k =>
    if s.ring.gapLimit ≤ k + 1 then expireGap s else s.setRing { s.ring with gap := .running (k + 1) }
  | _ => s

/-! ### The readbacks of a return (R175) -/

/-- A readback taken from its slot's payload. -/
def readbackOf (k : ReadbackId) (p : List Byte) : Readback :=
  ⟨le16 p 0, if k = .conditioner then le16 p 2 else 0, true, 0⟩

/-- One binding's readback taken into the store, where the frame carries it. -/
def takeReadback (slots : List (List Byte)) (s : State) (k : ReadbackId) : State :=
  match boundPayload s.ring (.readback k) slots with
  | none => s
  | some p => setReadback k (readbackOf k p) s

/-- Every readback of a matched return taken into the store. -/
def takeReadbacks (slots : List (List Byte)) (s : State) : State := allReadbacks.foldl (takeReadback slots) s

/-- The value of a readback in the frame in hand. -/
def frameReadback (r : Ring) (slots : List (List Byte)) (k : ReadbackId) : Option Nat :=
  (boundPayload r (.readback k) slots).map fun p => le16 p 0

/-! ### The meanings -/

/-- The age of a bound readback passes the stale limit (R176). -/
def execReadbackAgeStale (k : ReadbackId) (s : State) : Host.Outcome State Fault Refusal :=
  .next (whenActive (staleEvent k) s)

/-- The frame gap timer expires (R180). -/
def execFrameGap (s : State) : Host.Outcome State Fault Refusal := .next (whenActive gapEvent s)

end Sys2Proof.Machine
end

