-- ==== Sys2Proof/Machine/Reports.lean ====
section
/-! DEFINITION. What the outside reads: the report payloads of the return pass and the pages of READ_STATE, in
the layouts of section 10.11 (R29, R27, R91, R101, R125, R165, R178, R187). -/

namespace Sys2Proof.Machine

/-! ### Parts of the reports -/

/-- The condition of a summary: none, pending or carried (R27, R28). -/
def summaryCondition : Option Summary → Nat
  | none => 0
  | some x => if x.isCarried then 2 else 1

/-- One input of the interlock view (R29, R147). -/
def interlockCode (s : State) (n : InputId) : Nat :=
  match acceptedLevel s n with
  | some true => 0 | some false => 1 | none => 2

/-- The interlock view: two bits for each of the head's four START inputs. -/
def interlockView (s : State) (h : Head) : Nat :=
  interlockCode s Di.estopOk + 4 * interlockCode s Di.doorClosed + 16 * interlockCode s Di.padPresent +
    64 * interlockCode s (Di.wafer h)

/-- The hold causes and the level recorded with FAULT, bits 0 to 6 of HEAD_STATUS byte 7. DESIGN CHOICE:
the level is 0 while FAULT is not in the set; section 10.11 gives it no value then (notes/assumptions/38.md). -/
def causesCode (c : HoldCauses) : Nat :=
  asBit c.directive 0 + asBit c.holdPoint 1 + asBit c.fault.isSome 2 + asBit c.blendWait 3 +
    16 * c.fault.getD 0

/-- A set of eight as a byte, bit p for part p. -/
def carriedCode (v : Vector Bool 8) : Nat := (allZones.map fun p => asBit v[p] p.val).sum

/-- A directive count. DESIGN CHOICE: the count bits are 0 while unsynchronised; section 10.11 gives them no value then
(notes/assumptions/38.md). -/
def countOf (c : Option (BitVec 4)) : Nat := (c.map (·.toNat)).getD 0

/-- Two bytes for each of four channels. -/
def perChannel (f : Channel → Nat) : List Byte := allChannels.flatMap fun c => put16 (f c)

/-- A set of sources as three bytes, source i in bit i. -/
def sourceBits (f : SourceId → Bool) : List Byte := putLE 3 (allSources.map fun i => asBit (f i) i.val).sum

/-! ### HEAD_STATUS (R29) and HEAD_SUMMARY (R27) -/

/-- The payload of HEAD_STATUS. DESIGN CHOICE: no carried part is shown while there is no summary
(notes/assumptions/38.md). -/
def headStatus (s : State) (h : Head) : List Byte :=
  let u := s.head h
  [toByte (u.mode.code + 8 * endCauseCode u.endCause + 64 * summaryCondition u.summary),
   toByte (orNone u.current), toByte (orNone u.pendingStep), toByte u.loopCounter] ++ putLE 3 u.timer ++
  [toByte (causesCode u.causes + asBit u.endpoint 7),
   toByte ((u.summary.map fun x => carriedCode x.carried).getD 0), toByte (interlockView s h),
   toByte (u.ventLevel + asBit u.dirCount.isSome 3 + 16 * countOf u.dirCount), toByte (outcomeCode u.outcome)]

/-- Part p of the summary; the fields are zero while there is none. -/
def summaryPart (x : Option Summary) (p : Fin 8) : List Byte :=
  match x with
  | none => padTo 12 []
  | some x =>
    if h : p.val = 0 then
      padTo 12 ([toByte (1 + 2 * endCauseCode x.endCause + asBit x.condUnavailable 4 + asBit x.ringRange 5)] ++
        put16 x.stepsExecuted ++ put16 x.cappedSteps ++ putLE 4 x.waferCycles)
    else
      let k : Fin 7 := ⟨p.val - 1, by omega⟩
      padTo 12 ([toByte (1 + asBit x.range[k] 1 + asBit x.diff[k] 2)] ++ putLE 4 x.removal[k])

/-- The head and part a HEAD_SUMMARY index byte selects: bits 3 to 6 zero (R178). -/
def summaryIndex (i : Nat) : Option (Head × Fin 8) :=
  if h : i < 8 then some (.a, ⟨i, h⟩)
  else if h : 128 ≤ i ∧ i < 136 then some (.b, ⟨i - 128, by omega⟩)
  else none

/-! ### COND_REPORT (R91, R101, R178) -/

/-- Byte 0 of every view. -/
def condByte0 (c : Conditioner) : Byte :=
  toByte (c.mode.code + 8 * legCode c.leg + asBit c.startReq 5 + asBit c.pendingSample.isSome 6 +
    asBit c.stagedSample.isSome 7)

/-- A sample's fields, zero where there is none. -/
def sampleBytes (x : Option PadSample) : List Byte :=
  match x with
  | none => List.replicate 7 0
  | some x => [toByte x.segment] ++ put16 x.height ++ put16 x.seq.toNat ++ put16 x.cycle.toNat

/-- The last arm command's fields. DESIGN CHOICE: they are zero while there is none; section 10.11 gives them no value
then (notes/assumptions/38.md). -/
def lastCommand (c : Conditioner) : ArmCommand := c.lastCmd.getD ⟨0, 0, 0⟩

/-- The flags of the conditioner that stand beside the continuation. -/
def condFlags (c : Conditioner) : Nat :=
  c.cont.code + 4 * c.demand.code + asBit c.dirCount.isSome 5 + asBit c.lastCmd.isSome 6

def condOutcomeByte (c : Conditioner) : Byte := toByte (countOf c.dirCount + 16 * outcomeCode c.outcome)

def condReport (c : Conditioner) (view : Fin 3) : List Byte :=
  [condByte0 c] ++ put16 c.seq.toNat ++
  match view with
  | 0 => sampleBytes c.pendingSample ++ [toByte (orNone c.current), toByte c.demand.code]
  | 1 => put16 c.dwell ++ put16 c.traverse ++ put16 c.interval ++
      [toByte (orNone c.current), toByte c.demand.code, 0]
  | 2 => put16 (lastCommand c).radius ++ put16 (lastCommand c).force ++
      [toByte (lastCommand c).speed, toByte (orNone c.current), toByte (condFlags c),
       toByte (orNone c.cont.segment), condOutcomeByte c]

/-! ### SLURRY_REPORT (R125) -/

/-- View 0 of the report. -/
def slurryView0 (x : Slurry) : List Byte :=
  [toByte (orNone x.blend),
   toByte (x.owners.code + (allChannels.map fun c => asBit x.flows[c].limited (4 + c.val)).sum),
   toByte (orNone x.waitA), toByte (orNone x.waitB)] ++ put16 x.presence ++
  [toByte (asBit x.dirCount.isSome 0 + 16 * countOf x.dirCount), toByte (outcomeCode x.outcome)]

def slurryReport (x : Slurry) (view : Fin 4) : List Byte :=
  match view with
  | 0 => padTo 12 (slurryView0 x)
  | 1 => padTo 12 (perChannel (fun c => x.flows[c].q) ++ [toByte (orNone x.blend)])
  | 2 => padTo 12 (perChannel (fun c => x.flows[c].arrived) ++ [toByte (orNone x.blend)])
  | 3 => padTo 12 (perChannel (fun c => x.flows[c].dev) ++ [toByte (orNone x.blend)])

/-! ### PART_STATUS (R165) -/

/-- Bytes 0 to 5. -/
def faultSummary (f : Arbiter) : List Byte :=
  [toByte (f.level + 8 * f.stack.length + asBit f.pendingAny 6),
   toByte (orNone (f.current.map (·.source.val))),
   toByte ((f.current.map (·.reaction.code)).getD 0)] ++ sourceBits fun i => f.sources[i].status

def partStatus (s : State) : List Byte :=
  padTo 12 (faultSummary s.faults ++ put16 ((s.ring.last.map (·.toNat)).getD 0) ++
    [toByte s.ring.advance, ownByte s])

/-! ### READ_STATE (R187) -/

def headPage0 (s : State) (h : Head) : List Byte :=
  let u := s.head h
  headStatus s h ++ put16 u.stepsExecuted ++ put16 u.cappedSteps ++ putLE 4 u.waferCycles ++
  [toByte (asBit u.condUnavailable 0)]

def zonePage (u : HeadUnit) (z : Zone) : List Byte :=
  let x := u.zones[z]
  let membraneZone : Bool := z.val != 7
  put16 x.target ++ put16 x.rate ++ put16 x.setpoint ++ put16 x.command ++
  [toByte (asBit x.range 0 + asBit (x.diff && membraneZone) 1 + asBit (x.stale && membraneZone) 2)] ++
  put16 x.track ++ putSigned 2 (if membraneZone then x.dev else 0)

/-- Step and wafer accumulators of some membrane zones. -/
def accumulatorBytes (u : HeadUnit) (ks : List (Fin 7)) : List Byte :=
  ks.flatMap fun k => putLE 6 u.stepAcc[k] ++ putLE 6 u.waferAcc[k]

def headPage (s : State) (h : Head) (page : Nat) : Option (List Byte) :=
  if page = 0 then some (headPage0 s h)
  else if g : 1 ≤ page ∧ page ≤ 8 then some (zonePage (s.head h) ⟨page - 1, by omega⟩)
  else if page = 9 then some (accumulatorBytes (s.head h) [0, 1, 2, 3])
  else if page = 10 then some (accumulatorBytes (s.head h) [4, 5, 6] ++ put16 (s.head h).removalK)
  else none

def condPage0 (c : Conditioner) : List Byte :=
  [condByte0 c] ++ put16 c.seq.toNat ++
  [toByte (orNone c.current), toByte (condFlags c + asBit c.timeoutMark 7), toByte (orNone c.cont.segment)] ++
  put16 c.dwell ++ put16 c.traverse ++ put16 c.interval ++ put16 (lastCommand c).radius ++
  put16 (lastCommand c).force ++ [toByte (lastCommand c).speed, condOutcomeByte c] ++
  sampleBytes c.pendingSample ++ sampleBytes c.stagedSample

/-- One profile entry; height and age are 0 when it is invalid (R104). -/
def profileBytes (e : Option PadEntry) : List Byte :=
  match e with
  | none => List.replicate 5 0
  | some p => [1] ++ put16 p.height ++ put16 p.age

def condPage (c : Conditioner) (page : Nat) : Option (List Byte) :=
  if page = 0 then some (condPage0 c)
  else if page ≤ 4 then
    some ((List.range 8).flatMap fun k => profileBytes (c.profile[8 * (page - 1) + k]?).join)
  else none

def pulseByte (x : PulseChannel) : Byte := toByte (asBit x.running 0 + asBit x.first 1 + asBit x.active 2)

def slurryPage (s : State) (page : Nat) : Option (List Byte) :=
  let x := s.slurry
  match page with
  | 0 => some (slurryView0 x ++ perChannel (fun c => x.flows[c].q) ++
      perChannel (fun c => x.flows[c].arrived) ++ perChannel fun c => x.flows[c].dev)
  | 1 => some (allChannels.map (fun c => toByte x.channels[c].delay) ++
      [toByte (allChannels.map fun c => asBit x.channels[c].abrasive c.val).sum] ++ put16 x.abrasiveRef)
  | 2 => some ([toByte (asBit s.pulse.supply 0)] ++ allChannels.map (fun c => pulseByte s.pulse.ch[c]) ++
      allChannels.flatMap fun c => put16 s.pulse.ch[c].buffer ++ put16 s.pulse.ch[c].compare)
  | _ => none

def faultPage (s : State) (page : Nat) : Option (List Byte) :=
  let f := s.faults
  match page with
  | 0 => some (faultSummary f ++ sourceBits fun i => f.sources[i].isPending)
  | 1 => some ((allSources.take 11).flatMap fun i => sourceData f.sources[i])
  | 2 => some ((allSources.drop 11).flatMap fun i => sourceData f.sources[i])
  | 3 => some (f.stack.reverse.flatMap fun r => [toByte r.level, toByte r.source.val, toByte r.reaction.code])
  | 4 => some (allInputs.flatMap fun n =>
      [toByte (acceptedCode s.inputs[n].accepted), toByte s.inputs[n].rate.code])
  | _ => none

/-- The answer of a READ_STATE: none for a block outside 0 to 4, then none for a page outside its list. -/
def statePage (s : State) (block page : Nat) : Option (Option (List Byte)) :=
  match block with
  | 0 => some (headPage s .a page)
  | 1 => some (headPage s .b page)
  | 2 => some (condPage s.cond page)
  | 3 => some (slurryPage s page)
  | 4 => some (faultPage s page)
  | _ => none

/-! ### Report slots (R178) -/

/-- Fill every slot addressed to the part of one kind, where its index selects contents. -/
def fillSlots (s : State) (kind : Byte) (content : Nat → Option (List Byte)) (slots : List (List Byte)) :
    List (List Byte) :=
  slots.map fun x =>
    if slotNode x == ownByte s && slotKind x == kind then
      match content (slotIndex x) with
      | none => x
      | some p => setPayload p x
    else x

/-- The contents of HEAD_STATUS slots of one head. -/
def statusContent (s : State) (h : Head) (i : Nat) : Option (List Byte) :=
  if i = headIndex h then some (headStatus s h) else none

/-- The contents of HEAD_SUMMARY slots of one head. -/
def summaryContent (s : State) (h : Head) (i : Nat) : Option (List Byte) :=
  match summaryIndex i with
  | none => none
  | some (k, p) => if k = h then some (summaryPart (s.head h).summary p) else none

/-- The contents of COND_REPORT slots by view. -/
def condContent (s : State) (i : Nat) : Option (List Byte) :=
  if h : i < 3 then some (condReport s.cond ⟨i, h⟩) else none

/-- The contents of SLURRY_REPORT slots by view. -/
def slurryContent (s : State) (i : Nat) : Option (List Byte) :=
  if h : i < 4 then some (slurryReport s.slurry ⟨i, h⟩) else none

/-- The contents of PART_STATUS slots, whatever their index. -/
def partContent (s : State) (_i : Nat) : Option (List Byte) := some (partStatus s)

/-- The parts of a head's summary that the frame's own HEAD_SUMMARY slots name (R179). -/
def summaryParts (s : State) (h : Head) (slots : List (List Byte)) : List (Fin 8) :=
  slots.filterMap fun x =>
    if slotNode x == ownByte s && slotKind x == kindHeadSummary then
      match summaryIndex (slotIndex x) with
      | some (k, p) => if k = h then some p else none
      | none => none
    else none

/-- The parts named join the carried set; without a summary nothing is added (R28, R179). -/
def markCarried (h : Head) (parts : List (Fin 8)) (s : State) : State :=
  s.modHead h fun u => { u with summary := u.summary.map fun x =>
    { x with carried := parts.foldl (fun (v : Vector Bool 8) (p : Fin 8) => v.set p true) x.carried } }

/-- The frame has a view-0 COND_REPORT slot addressed to the part (R99). -/
def hasView0 (s : State) (slots : List (List Byte)) : Bool :=
  slots.any fun x => slotNode x == ownByte s && slotKind x == kindCondReport && slotIndex x == 0

end Sys2Proof.Machine
end

