-- ==== Sys2Proof/Machine/Management.lean ====
section
/-! DEFINITION. Management records and the requests they carry (chapter 11): the record and its frame, the
order of the checks (R184), every request's effect and answer, and the meanings of the request rows. -/

namespace Sys2Proof.Machine

/-! ### The record and its answer (R182, section 10.11) -/

/-- A management record, with the frame header bytes around it that the part forwards as received. -/
structure Record where
  flags  : Byte
  cycle  : BitVec 16
  byte5  : Byte
  target : Byte
  kind   : Byte
  tag    : BitVec 16
  status : Byte
  table  : Byte
  index  : BitVec 16
  length : Byte
  mark   : Byte
  pad    : List Byte
  data   : List Byte
deriving DecidableEq, Repr

/-- The answer statuses. -/
inductive Status where
  | done | busy | badTable | badIndex | badValue | badState | unknownRequest
deriving DecidableEq, Repr

def Status.code : Status → Nat
  | .done => 0 | .busy => 1 | .badTable => 2 | .badIndex => 3 | .badValue => 4 | .badState => 5
  | .unknownRequest => 6

/-- What a request gives: its status, its answer data, the defined marker of READ_ENTRY, the state after it. -/
structure Answer where
  status  : Status
  data    : List Byte
  defined : Bool
  state   : State
deriving DecidableEq, Repr

/-- A request refused: no data, and nothing changed (R184). -/
def refuse (st : Status) (s : State) : Answer := ⟨st, [], false, s⟩

/-- A request carried out. -/
def carriedOut (s : State) : Answer := ⟨.done, [], false, s⟩

/-- A request carried out that answers data and changes nothing. -/
def answerData (d : List Byte) (s : State) : Answer := ⟨.done, d, false, s⟩

/-- The 64 bytes of a record with some of its fields given. -/
def Record.bytes (r : Record) (status length mark : Byte) (pad data : List Byte) : List Byte :=
  [r.target, r.kind] ++ put16 r.tag.toNat ++ [status, r.table] ++ put16 r.index.toNat ++
  [length, mark] ++ padTo 6 pad ++ padTo 48 data

/-- The management frame around a record's bytes: 76 bytes, CRC included. -/
def Record.around (r : Record) (body : List Byte) : List Byte :=
  withCrc ([0x02#8, r.flags] ++ put16 r.cycle.toNat ++ [0#8, r.byte5] ++ put16 76 ++ body)

/-- The frame that carries a record. -/
def Record.frame (r : Record) : List Byte := r.around (r.bytes r.status r.length r.mark r.pad r.data)

/-- The frame that carries its answer: target, kind, tag, table and index kept, the rest overwritten, unused
data zero (R182). -/
def Record.answered (r : Record) (a : Answer) : List Byte :=
  r.around (r.bytes (toByte a.status.code) (toByte a.data.length) (toByte (asBit a.defined 0)) [] a.data)

/-- The record of a management frame. -/
def recordOf (f : List Byte) : Record where
  flags := f.getD 1 0
  cycle := frameCycle f
  byte5 := f.getD 5 0
  target := f.getD 8 0
  kind := f.getD 9 0
  tag := BitVec.ofNat 16 (le16 f 10)
  status := f.getD 12 0
  table := f.getD 13 0
  index := BitVec.ofNat 16 (le16 f 14)
  length := f.getD 16 0
  mark := f.getD 17 0
  pad := (f.drop 18).take 6
  data := (f.drop 24).take 48

/-- The record of a request row: its kind, table byte and index with the envelope's bytes. -/
def recordWith (e : Envelope) (kind table : Byte) (index : BitVec 16) : Record where
  flags := e.flags
  cycle := e.cycle
  byte5 := e.byte5
  target := e.target
  kind := kind
  tag := e.tag
  status := e.status
  table := table
  index := index
  length := e.length
  mark := e.mark
  pad := e.pad.toList
  data := e.data.toList

/-! ### The order of the checks (R184) -/

/-- The data length is at most 48 and covers what the request needs (check 2). -/
def lengthOk (need : Nat) (r : Record) : Bool := decide (need ≤ r.length.toNat) && decide (r.length.toNat ≤ 48)

/-- Checks 2, 4, 5 and 6 of a request that is carried out when they pass. -/
def checked (need : Nat) (indexOk valueOk : Bool) (window : Option Status) (act : State → Answer)
    (r : Record) (s : State) : Answer :=
  if !(lengthOk need r) then refuse .badValue s
  else if !indexOk then refuse .badIndex s
  else if !valueOk then refuse .badValue s
  else match window with
    | some st => refuse st s
    | none => act s

/-- A window as a status: none while it is open. -/
def windowOf (isOpen : Bool) (st : Status) : Option Status := if isOpen then none else some st

/-- The head is IDLE, else BAD_STATE. -/
def idleWindow (s : State) (h : Head) : Option Status := windowOf ((s.head h).mode == .idle) .badState

/-- The conditioner is PARKED with an empty demand set, else BUSY (R67). -/
def parkedWindow (s : State) : Option Status :=
  windowOf (s.cond.mode == .parked && s.cond.demand.isEmpty) .busy

/-! ### WRITE_ENTRY (R185) -/

def tableOf (base : Nat) (h : Head) : Byte := toByte (base + headIndex h)

/-- STEP_A, STEP_B (R1). -/
def opWriteStep (h : Head) (r : Record) (s : State) : Answer :=
  checked stepLength (decide (r.index.toNat < 64)) (stepDataOk r.data) (idleWindow s h)
    (fun s => carriedOut (s.modHead h fun u =>
      { u with steps := u.steps.setIfInBounds r.index.toNat (some (stepOfData r.data)) })) r s

/-- COUPLING_A, COUPLING_B (R32). -/
def opWriteCoupling (h : Head) (r : Record) (s : State) : Answer :=
  checked couplingLength (decide (r.index.toNat < 7)) (couplingDataOk r.index.toNat r.data) (idleWindow s h)
    (fun s => carriedOut (s.modHead h fun u =>
      { u with coupling := u.coupling.setIfInBounds r.index.toNat (couplingOfData r.data) })) r s

/-- ZONE_A, ZONE_B (R31). -/
def opWriteZone (h : Head) (r : Record) (s : State) : Answer :=
  checked zoneLength (decide (r.index.toNat < 8)) (zoneDataOk r.index.toNat r.data) (idleWindow s h)
    (fun s => carriedOut (s.modHead h fun u =>
      { u with zoneConf := u.zoneConf.setIfInBounds r.index.toNat (zoneOfData r.data) })) r s

/-- SEGMENT (R67). -/
def opWriteSegment (r : Record) (s : State) : Answer :=
  checked segmentLength (decide (r.index.toNat < 32)) (segmentDataOk r.data) (parkedWindow s)
    (fun s => carriedOut (s.setCond { s.cond with
      segments := s.cond.segments.setIfInBounds r.index.toNat (some (segmentOfData r.data)) })) r s

/-- PROGRAM (R68). -/
def opWriteProgram (r : Record) (s : State) : Answer :=
  checked programLength (decide (r.index.toNat = 0)) (programDataOk r.data) (parkedWindow s)
    (fun s => carriedOut (s.setCond { s.cond with program := some (programOfData r.data) })) r s

/-- BLEND (R105). -/
def opWriteBlend (r : Record) (s : State) : Answer :=
  checked blendLength (decide (r.index.toNat < 16)) (blendDataOk r.data)
    (windowOf (s.slurry.blend != some r.index.toNat) .busy)
    (fun s => carriedOut (s.setSlurry { s.slurry with
      blends := s.slurry.blends.setIfInBounds r.index.toNat (some (blendOfData r.data)) })) r s

/-- The write changes a timing field of the channel (R134). -/
def timingChanged (old new : ChannelConf) : Bool :=
  old.prescale != new.prescale || old.resolution != new.resolution || old.activeHigh != new.activeHigh

/-- The channel's flow state under a new entry (R106, R120, R122). -/
def ChannelFlow.rewrite (old new : ChannelConf) (f : ChannelFlow) : ChannelFlow :=
  { f with
    dev := 0, limited := false
    line := if old.delay = new.delay then f.line else List.replicate new.delay f.q
    arrived := if old.delay = new.delay then f.arrived else f.q }

/-- The channel's pulse state under a new entry (R128, R134). -/
def PulseChannel.rewrite (old new : ChannelConf) (supply : Bool) (x : PulseChannel) : PulseChannel :=
  let x := if old.resolution = new.resolution then x else { x with buffer := 0, compare := 0 }
  x.refresh new.enable supply

/-- A CHANNEL write that is carried out (R106, R134). -/
def rewriteChannel (c : Channel) (new : ChannelConf) (s : State) : State :=
  let x := s.slurry
  let old := x.channels[c]
  (s.setSlurry { x with
    channels := x.channels.set c new, flows := x.flows.set c (x.flows[c].rewrite old new) }).setPulse
    { s.pulse with ch := s.pulse.ch.set c (s.pulse.ch[c].rewrite old new s.pulse.supply) }

/-- CHANNEL (R106, R126, R134). -/
def opWriteChannel (r : Record) (s : State) : Answer :=
  if h : r.index.toNat < 4 then
    let c : Channel := ⟨r.index.toNat, h⟩
    checked channelLength true (channelDataOk r.data)
      (windowOf (!(s.pulse.ch[c].running && timingChanged s.slurry.channels[c] (channelOfData r.data))) .busy)
      (fun s => carriedOut (rewriteChannel c (channelOfData r.data) s)) r s
  else checked channelLength false true none carriedOut r s

/-- The readback of a slot map entry has its age set to 0 (R175). -/
def clearAge (e : Option SlotEntry) (s : State) : State :=
  match e with
  | some ⟨.readback k, _, _⟩ => setReadback k { storedReadback s k with age := 0 } s
  | _ => s

/-- The entries of the slot map but one. -/
def otherEntries (r : Ring) (i : Nat) : List SlotEntry :=
  (List.range 48).filterMap fun k => if k = i then none else (r.slotMap[k]?).join

/-- A SLOTMAP write that is carried out (R173, R175). -/
def rewriteSlot (i : Nat) (e : Option SlotEntry) (s : State) : State :=
  clearAge e (clearAge (s.ring.slotMap[i]?).join
    (s.setRing { s.ring with slotMap := s.ring.slotMap.setIfInBounds i e }))

/-- The window of the slot map (R185). -/
def slotWindow (s : State) : Option Status :=
  windowOf (!s.headA.mode.inUse && !s.headB.mode.inUse && s.cond.mode == .parked) .badState

/-- SLOTMAP (R173). -/
def opWriteSlotmap (r : Record) (s : State) : Answer :=
  checked slotEntryLength (decide (r.index.toNat < 48))
    (slotEntryOk (ownByte s) (otherEntries s.ring r.index.toNat) r.data) (slotWindow s)
    (fun s => carriedOut (rewriteSlot r.index.toNat (slotEntryOfData r.data) s)) r s

/-- A source's configuration written (R151). -/
def SourceState.rewrite (d : List Byte) (x : SourceState) : SourceState :=
  { x with enable := byteAt d 0 == 1, level := byteAt d 1,
           reaction := (Reaction.ofCode (byteAt d 2)).getD x.reaction }

/-- A SOURCE write that is carried out: a change of configuration, and the taking rule (R151, R152). -/
def rewriteSource (i : Nat) (d : List Byte) (s : State) : State :=
  match s.faults.sources[i]? with
  | none => s
  | some x => applyTaking none
      (s.setFaults { s.faults with sources := s.faults.sources.setIfInBounds i (x.rewrite d) })

/-- SOURCE (R150, R151). -/
def opWriteSource (r : Record) (s : State) : Answer :=
  checked sourceLength (decide (r.index.toNat < 22)) (sourceDataOk r.index.toNat r.data) none
    (fun s => carriedOut (rewriteSource r.index.toNat r.data s)) r s

/-! ### READ_ENTRY (R185) -/

/-- An entry that may be undefined: its data and marker, or zeros with the marker clear. -/
def optionalEntry {α : Type} (n : Nat) (f : α → List Byte) (e : Option α) : List Byte × Bool :=
  match e with
  | some x => (f x, true)
  | none => (List.replicate n 0, false)

/-- The data and defined marker of entry i of a table: none outside the twelve tables, then none outside the
table's indices. -/
def entryData (s : State) (table i : Nat) : Option (Option (List Byte × Bool)) :=
  match table with
  | 1 => some ((s.headA.steps[i]?).map (optionalEntry stepLength stepData))
  | 2 => some ((s.headB.steps[i]?).map (optionalEntry stepLength stepData))
  | 3 => some ((s.headA.coupling[i]?).map fun x => (couplingData x, true))
  | 4 => some ((s.headB.coupling[i]?).map fun x => (couplingData x, true))
  | 5 => some ((s.headA.zoneConf[i]?).map fun x => (zoneData x, true))
  | 6 => some ((s.headB.zoneConf[i]?).map fun x => (zoneData x, true))
  | 7 => some ((s.cond.segments[i]?).map (optionalEntry segmentLength segmentData))
  | 8 => some (if i = 0 then some (optionalEntry programLength programData s.cond.program) else none)
  | 9 => some ((s.slurry.blends[i]?).map (optionalEntry blendLength blendData))
  | 10 => some ((s.slurry.channels[i]?).map fun x => (channelData x, true))
  | 11 => some ((s.ring.slotMap[i]?).map fun x => (slotEntryData x, x.isSome))
  | 12 => some ((s.faults.sources[i]?).map fun x => (sourceData x, true))
  | _ => none

/-- READ_ENTRY (R185). -/
def opReadEntry (r : Record) (s : State) : Answer :=
  if !(lengthOk 0 r) then refuse .badValue s
  else match entryData s r.table.toNat r.index.toNat with
    | none => refuse .badTable s
    | some none => refuse .badIndex s
    | some (some (d, m)) => ⟨.done, d, m, s⟩

/-! ### READ_STATE (R187) -/

/-- READ_STATE. -/
def opReadState (r : Record) (s : State) : Answer :=
  if !(lengthOk 0 r) then refuse .badValue s
  else match statePage s r.table.toNat r.index.toNat with
    | none => refuse .badTable s
    | some none => refuse .badIndex s
    | some (some d) => answerData d s

/-! ### Parameters (R186, section 11.4) -/

/-- The value a SET_PARAM carries. -/
def paramValue (r : Record) : Int := signedOf 32 (le32 r.data 0)

/-- A parameter write: four bytes, the range, the window. -/
def setParam (lo hi : Int) (window : Option Status) (act : Nat → State → State) (r : Record) (s : State) :
    Answer :=
  checked 4 true (decide (lo ≤ paramValue r) && decide (paramValue r ≤ hi)) window
    (fun s => carriedOut (act (paramValue r).toNat s)) r s

def opStepCount (h : Head) (r : Record) (s : State) : Answer :=
  setParam 0 64 (idleWindow s h) (fun n s => s.modHead h fun u => { u with stepCount := n }) r s

def opDmax (h : Head) (r : Record) (s : State) : Answer :=
  setParam 0 12000 (idleWindow s h) (fun n s => s.modHead h fun u => { u with dmax := n }) r s

def opPadGain (h : Head) (r : Record) (s : State) : Answer :=
  setParam (-256) 256 (idleWindow s h) (fun _ s => s.modHead h fun u => { u with padGain := paramValue r }) r s

def opRemovalK (h : Head) (r : Record) (s : State) : Answer :=
  setParam 0 65535 (idleWindow s h) (fun n s => s.modHead h fun u => { u with removalK := n }) r s

def opSegmentCount (r : Record) (s : State) : Answer :=
  setParam 1 32 (parkedWindow s) (fun n s => s.setCond { s.cond with segCount := n }) r s

def opPadRefHeight (r : Record) (s : State) : Answer :=
  setParam 0 5000 none (fun n s => s.setCond { s.cond with padRef := n }) r s

def opPadAgeLimit (r : Record) (s : State) : Answer :=
  setParam 0 65535 none (fun n s => s.setCond { s.cond with padAgeLimit := n }) r s

def opAbrasiveRefFlow (r : Record) (s : State) : Answer :=
  setParam 1 1000 none (fun n s => s.setSlurry { s.slurry with abrasiveRef := n }) r s

def opReadbackStaleLimit (r : Record) (s : State) : Answer :=
  setParam 1 255 none (fun n s => s.setRing { s.ring with staleLimit := n }) r s

/-- A new frame gap limit applies to a running count, which may expire at once (R180). -/
def rewriteGapLimit (n : Nat) (s : State) : State :=
  let t := s.setRing { s.ring with gapLimit := n }
  match s.ring.gap with
  | .running k => if n ≤ k then expireGap t else t
  | _ => t

def opFrameGapLimit (r : Record) (s : State) : Answer := setParam 500 100000 none rewriteGapLimit r s

/-- A new rate of an input: the history is emptied and the sampling begins anew, or the pin is followed; the
present rate changes nothing (R140). -/
def rewriteRate (n : InputId) (rate : DiRate) (s : State) : State :=
  if s.inputs[n].rate = rate then s
  else
    let t := s.setInput n { s.inputs[n] with rate := rate, history := [], timer := 0 }
    if rate = .off then followPin n s.inputs[n].pin t else t

def opDiRate (n : InputId) (r : Record) (s : State) : Answer :=
  setParam 0 3 none (fun v s => rewriteRate n ((DiRate.ofCode v).getD .off) s) r s

/-- The value of a parameter by its id. -/
def paramOf (s : State) (id : Nat) : Option Int :=
  match id with
  | 1 => some s.headA.stepCount
  | 2 => some s.headB.stepCount
  | 3 => some s.headA.dmax
  | 4 => some s.headB.dmax
  | 5 => some s.headA.padGain
  | 6 => some s.headB.padGain
  | 7 => some s.headA.removalK
  | 8 => some s.headB.removalK
  | 9 => some s.cond.segCount
  | 10 => some s.cond.padRef
  | 11 => some s.cond.padAgeLimit
  | 12 => some s.slurry.abrasiveRef
  | 13 => some s.ring.staleLimit
  | 14 => some s.ring.gapLimit
  | k => if h : 16 ≤ k ∧ k ≤ 23 then some (s.inputs[k - 16]'(by omega)).rate.code else none

/-- GET_PARAM (R186). -/
def opGetParam (r : Record) (s : State) : Answer :=
  if !(lengthOk 0 r) then refuse .badValue s
  else match paramOf s r.index.toNat with
    | none => refuse .badIndex s
    | some x => answerData (putSigned 4 x) s

/-! ### ARM and DISARM (R4 to R6) -/

/-- Check 2 of R4. -/
def zoneConfigOk (u : HeadUnit) : Bool :=
  (allZones.all fun z =>
    decide (u.zoneConf[z].lmin ≤ u.zoneConf[z].lmax) && decide (u.zoneConf[z].release ≤ u.zoneConf[z].lmax)) &&
  ([0, 1, 2, 3, 4, 5].all fun k : Fin 6 =>
    decide (distance u.zoneConf[k.val].lmin u.zoneConf[k.val + 1].lmin ≤ u.dmax))

/-- Check 4 of R4. -/
def targetsOk (u : HeadUnit) (st : StepEntry) : Bool :=
  allZones.all fun z => within u.zoneConf[z].lmin u.zoneConf[z].lmax st.targets[z]

/-- Check 5 of R4. -/
def removalFieldsOk (st : StepEntry) : Bool :=
  !st.exitKind.endsOnRemoval || (st.removalTarget.isSome && st.refZone.isSome)

/-- Check 6 of R4. -/
def blendDefined (x : Slurry) (st : StepEntry) : Bool :=
  match st.blend with
  | .index n => (x.entry n).isSome
  | _ => true

/-- Check 7 of R4. -/
def loopTargetOk (j : Nat) (st : StepEntry) : Bool :=
  match st.loop with
  | none => true
  | some l => decide (l.target ≤ j)

/-- The step's index lies inside the loop range [target, k) of step k. -/
def insideLoop (u : HeadUnit) (j k : Nat) : Bool :=
  match u.step k with
  | none => false
  | some st =>
    match st.loop with
    | none => false
    | some l => decide (l.target ≤ j) && decide (j < k)

/-- Check 8 of R4, of a step that ends a loop range. -/
def loopDisjoint (u : HeadUnit) (j : Nat) (st : StepEntry) : Bool :=
  st.loop.isNone || !((List.range u.stepCount).any (insideLoop u j))

/-- The reason code of the first of checks 3 to 8 that step j fails (R4). -/
def stepReason (s : State) (h : Head) (j : Nat) : Option Nat :=
  match (s.head h).step j with
  | none => some 3
  | some st =>
    if !(targetsOk (s.head h) st) then some 4
    else if !(removalFieldsOk st) then some 5
    else if !(blendDefined s.slurry st) then some 6
    else if !(loopTargetOk j st) then some 7
    else if !(loopDisjoint (s.head h) j st) then some 8
    else none

/-- The first failing step of a list of steps, with its reason code. -/
def firstBadStep (s : State) (h : Head) : List Nat → Option (Nat × Nat)
  | [] => none
  | j :: js =>
    match stepReason s h j with
    | some c => some (j, c)
    | none => firstBadStep s h js

/-- The failing step (255 for none) and the reason code of a recipe, or none when it is valid (R4, R5). -/
def validate (s : State) (h : Head) : Option (Nat × Nat) :=
  if (s.head h).stepCount = 0 then some (255, 1)
  else if !(zoneConfigOk (s.head h)) then some (255, 2)
  else match firstBadStep s h (List.range (s.head h).stepCount) with
    | some x => some x
    | none => if zonesBound s.ring h then none else some (255, 9)

/-- A request that names a head in its index; another index is answered BAD_INDEX. -/
def onHead (act : Head → State → Answer) (r : Record) (s : State) : Answer :=
  if !(lengthOk 0 r) then refuse .badValue s
  else match headOf r.index.toNat with
    | none => refuse .badIndex s
    | some h => act h s

/-- ARM of a head (R5). -/
def armHead (h : Head) (s : State) : Answer :=
  if (s.head h).mode = .idle then
    match validate s h with
    | some (j, c) => ⟨.badValue, [toByte j, toByte c], false, s⟩
    | none => carriedOut (s.modHead h fun u => { u with mode := .ready })
  else refuse .badState s

def opArm (r : Record) (s : State) : Answer := onHead armHead r s

/-- A head enters IDLE from READY, COMPLETE or VENTED (R6). -/
def HeadUnit.disarm (u : HeadUnit) : HeadUnit :=
  { u with mode := .idle, summary := none, current := none, ventLevel := 0 }

/-- DISARM of a head (R6). -/
def disarmHead (h : Head) (s : State) : Answer :=
  match (s.head h).mode with
  | .idle => carriedOut s
  | .ready | .complete | .vented => carriedOut (s.modHead h HeadUnit.disarm)
  | .running | .held | .rampdown => refuse .badState s

def opDisarm (r : Record) (s : State) : Answer := onHead disarmHead r s

/-! ### Hold points and the fault requests (R155, R156, R188) -/

/-- The values of a SET_HOLD_POINT are in range. -/
def holdPointOk (d : List Byte) : Bool :=
  within 0 1 (byteAt d 0) && within 0 1 (byteAt d 1) && within 0 63 (byteAt d 2)

def holdPointOf (d : List Byte) : HoldPoint :=
  ⟨byteAt d 0 == 1, (headOf (byteAt d 1)).getD .a, byteAt d 2⟩

/-- SET_HOLD_POINT (R16, R188). -/
def opSetHoldPoint (r : Record) (s : State) : Answer :=
  checked 3 (decide (r.index.toNat < 2)) (holdPointOk r.data) none
    (fun s => carriedOut (s.setHoldPoints (s.holdPoints.setIfInBounds r.index.toNat (holdPointOf r.data)))) r s

/-- Source i is named by the three data bytes. -/
def namesSource (d : List Byte) (i : SourceId) : Bool := bitAt (byteAt d (i.val / 8)) (i.val % 8)

/-- The statuses of the named sources are clear. -/
def clearNamed (d : List Byte) (f : Arbiter) : Arbiter :=
  { f with sources := Vector.ofFn fun i : SourceId =>
      if namesSource d i then { f.sources[i] with status := false } else f.sources[i] }

/-- CLEAR_SOURCES (R156). -/
def opClearSources (r : Record) (s : State) : Answer :=
  checked 3 true (decide (byteAt r.data 2 < 64)) none
    (fun s => carriedOut (applyTaking none (s.setFaults (clearNamed r.data s.faults)))) r s

/-- RETURN_LEVEL (R155). -/
def opReturnLevel (r : Record) (s : State) : Answer :=
  checked 0 true true (windowOf (decide (0 < s.faults.level)) .badState)
    (fun s => carriedOut (applyTaking none (s.setFaults s.faults.pop))) r s

/-! ### RESET_RUNTIME (R189) -/

/-- A head after RESET_RUNTIME: its tables and parameters kept (R3, R34, R52). -/
def HeadUnit.resetRuntime (u : HeadUnit) : HeadUnit :=
  { HeadUnit.reset with
    steps := u.steps, stepCount := u.stepCount, zoneConf := u.zoneConf, coupling := u.coupling
    dmax := u.dmax, padGain := u.padGain, removalK := u.removalK
    zones := Vector.ofFn fun z => ZoneState.reset u.zoneConf[z].rampRate }

/-- The conditioner after RESET_RUNTIME (R70, R100): a lift from away of PARKED, the counts and the sample
report empty; the tables, the program, the profile, the current segment and the last command kept. -/
def Conditioner.resetRuntime (c : Conditioner) : Conditioner :=
  { c.clearDemand with
    dwell := 0, interval := 0, traverse := 0, timeoutMark := false, cont := .none, leg := none
    dirCount := none, outcome := none, pendingSample := none, stagedSample := none, seq := 0 }

/-- The slurry controller after RESET_RUNTIME (R108, R120). -/
def Slurry.resetRuntime (x : Slurry) : Slurry :=
  { Slurry.reset with
    blends := x.blends, channels := x.channels, abrasiveRef := x.abrasiveRef
    flows := Vector.ofFn fun c => ChannelFlow.reset x.channels[c].delay }

/-- The arbiter after RESET_RUNTIME (R164). -/
def Arbiter.resetRuntime (f : Arbiter) : Arbiter where
  sources := Vector.ofFn fun i => { f.sources[i] with status := false }
  current := none
  stack := []

/-- Every block at its runtime reset values. -/
def resetRuntimeState (s : State) : State :=
  { s with
    headA := s.headA.resetRuntime, headB := s.headB.resetRuntime
    holdPoints := Vector.replicate 2 HoldPoint.reset
    cond := s.cond.resetRuntime, slurry := s.slurry.resetRuntime, pulse := Pulse.reset
    faults := s.faults.resetRuntime }

/-- RESET_RUNTIME (R189). -/
def opResetRuntime (r : Record) (s : State) : Answer :=
  checked 0 true true (windowOf (!s.headA.mode.inUse && !s.headB.mode.inUse) .badState)
    (fun s => carriedOut (resetRuntimeState s)) r s

/-! ### The request of a raw record (R184, check 1 and the choice of a request) -/

/-- A WRITE_ENTRY by its table id; an id outside 1 to 12 is answered BAD_TABLE, after the length. -/
def opWriteEntry (r : Record) (s : State) : Answer :=
  match r.table.toNat with
  | 1 => opWriteStep .a r s
  | 2 => opWriteStep .b r s
  | 3 => opWriteCoupling .a r s
  | 4 => opWriteCoupling .b r s
  | 5 => opWriteZone .a r s
  | 6 => opWriteZone .b r s
  | 7 => opWriteSegment r s
  | 8 => opWriteProgram r s
  | 9 => opWriteBlend r s
  | 10 => opWriteChannel r s
  | 11 => opWriteSlotmap r s
  | 12 => opWriteSource r s
  | _ => if lengthOk 0 r then refuse .badTable s else refuse .badValue s

/-- A SET_PARAM by its parameter id; an id outside the table is answered BAD_INDEX, after the length. -/
def opSetParam (r : Record) (s : State) : Answer :=
  match r.index.toNat with
  | 1 => opStepCount .a r s
  | 2 => opStepCount .b r s
  | 3 => opDmax .a r s
  | 4 => opDmax .b r s
  | 5 => opPadGain .a r s
  | 6 => opPadGain .b r s
  | 7 => opRemovalK .a r s
  | 8 => opRemovalK .b r s
  | 9 => opSegmentCount r s
  | 10 => opPadRefHeight r s
  | 11 => opPadAgeLimit r s
  | 12 => opAbrasiveRefFlow r s
  | 13 => opReadbackStaleLimit r s
  | 14 => opFrameGapLimit r s
  | k => if h : 16 ≤ k ∧ k ≤ 23 then opDiRate ⟨k - 16, by omega⟩ r s else checked 4 false true none carriedOut r s

/-- The request of a record. -/
def opOf (r : Record) (s : State) : Answer :=
  match r.kind.toNat with
  | 1 => opReadState r s
  | 2 => opWriteEntry r s
  | 3 => opReadEntry r s
  | 4 => opSetParam r s
  | 5 => opGetParam r s
  | 6 => opArm r s
  | 7 => opDisarm r s
  | 8 => opSetHoldPoint r s
  | 9 => opClearSources r s
  | 10 => opReturnLevel r s
  | 11 => opResetRuntime r s
  | _ => refuse .unknownRequest s

/-! ### A management frame at port U (R182) -/

/-- A record is executed when it is addressed to the part and not yet answered (R182). -/
def isRequest (s : State) (r : Record) : Bool := r.target == ownByte s && r.status == 0xFF#8

/-- A valid management frame at port U, its record executed by `op` or forwarded unchanged. -/
def manage (op : Record → State → Answer) (r : Record) (f : List Byte) (s : State) : State :=
  if isRequest s r then sendD (r.answered (op r s)) (op r s).state else sendD f s

/-! ### The places for held frames (R167) -/

/-- The frames of a direction received and not yet handled. -/
def heldAt (s : State) : Port → List HeldFrame
  | .u => s.ring.heldU
  | .d => s.ring.heldD

/-- Replace them. -/
def setHeld (p : Port) (x : List HeldFrame) (s : State) : State :=
  match p with
  | .u => s.setRing { s.ring with heldU := x }
  | .d => s.setRing { s.ring with heldD := x }

/-- A frame arrives: handled at once when no frame of its direction is held, waiting behind the held one, or
discarded when both places are full (R167). A frame that waits keeps the moment of its arrival. -/
def arriveAt (p : Port) (f : List Byte) (handle : State → State) (s : State) : State :=
  match heldAt s p with
  | [] => handle s
  | [x] => setHeld p [x, ⟨f, arrivalOf s⟩] s
  | _ => s

/-- A request row: a management frame received whole at port U whose record makes this request. -/
def requestFrame (op : Record → State → Answer) (r : Record) (s : State) : Host.Outcome State Fault Refusal :=
  .next (arriveAt .u r.frame
    (fun t => if passThrough t then sendD r.frame t else manage op r r.frame t) s)

/-! ### The meanings -/

/-- READ_STATE (R187). -/
def execReadState (block : Byte) (page : BitVec 16) (e : Envelope) (s : State) :
    Host.Outcome State Fault Refusal := requestFrame opReadState (recordWith e 1 block page) s

/-- READ_ENTRY (R185). -/
def execReadEntry (table : Byte) (index : BitVec 16) (e : Envelope) (s : State) :
    Host.Outcome State Fault Refusal := requestFrame opReadEntry (recordWith e 3 table index) s

/-- GET_PARAM (R186). -/
def execGetParam (table : Byte) (id : BitVec 16) (e : Envelope) (s : State) :
    Host.Outcome State Fault Refusal := requestFrame opGetParam (recordWith e 5 table id) s

/-- WRITE_ENTRY to STEP_A or STEP_B (R1). -/
def execWriteEntryStep (h : Head) (index : BitVec 16) (e : Envelope) (s : State) :
    Host.Outcome State Fault Refusal := requestFrame (opWriteStep h) (recordWith e 2 (tableOf 1 h) index) s

/-- WRITE_ENTRY to COUPLING_A or COUPLING_B (R32). -/
def execWriteEntryCoupling (h : Head) (index : BitVec 16) (e : Envelope) (s : State) :
    Host.Outcome State Fault Refusal := requestFrame (opWriteCoupling h) (recordWith e 2 (tableOf 3 h) index) s

/-- WRITE_ENTRY to ZONE_A or ZONE_B (R31). -/
def execWriteEntryZone (h : Head) (index : BitVec 16) (e : Envelope) (s : State) :
    Host.Outcome State Fault Refusal := requestFrame (opWriteZone h) (recordWith e 2 (tableOf 5 h) index) s

/-- WRITE_ENTRY to SEGMENT (R67). -/
def execWriteEntrySegment (index : BitVec 16) (e : Envelope) (s : State) : Host.Outcome State Fault Refusal :=
  requestFrame opWriteSegment (recordWith e 2 7 index) s

/-- WRITE_ENTRY to PROGRAM (R68). -/
def execWriteEntryProgram (index : BitVec 16) (e : Envelope) (s : State) : Host.Outcome State Fault Refusal :=
  requestFrame opWriteProgram (recordWith e 2 8 index) s

/-- WRITE_ENTRY to BLEND (R105). -/
def execWriteEntryBlend (index : BitVec 16) (e : Envelope) (s : State) : Host.Outcome State Fault Refusal :=
  requestFrame opWriteBlend (recordWith e 2 9 index) s

/-- WRITE_ENTRY to CHANNEL (R106, R126, R134). -/
def execWriteEntryChannel (index : BitVec 16) (e : Envelope) (s : State) : Host.Outcome State Fault Refusal :=
  requestFrame opWriteChannel (recordWith e 2 10 index) s

/-- WRITE_ENTRY to SLOTMAP (R173). -/
def execWriteEntrySlotmap (index : BitVec 16) (e : Envelope) (s : State) : Host.Outcome State Fault Refusal :=
  requestFrame opWriteSlotmap (recordWith e 2 11 index) s

/-- WRITE_ENTRY to SOURCE (R150, R151). -/
def execWriteEntrySource (index : BitVec 16) (e : Envelope) (s : State) : Host.Outcome State Fault Refusal :=
  requestFrame opWriteSource (recordWith e 2 12 index) s

/-- The id of a head parameter in a record's index. -/
def paramId (base : Nat) (h : Head) : BitVec 16 := BitVec.ofNat 16 (base + headIndex h)

/-- SET_PARAM of STEP_COUNT_A or STEP_COUNT_B (R1). -/
def execSetParamStepCount (h : Head) (table : Byte) (e : Envelope) (s : State) :
    Host.Outcome State Fault Refusal := requestFrame (opStepCount h) (recordWith e 4 table (paramId 1 h)) s

/-- SET_PARAM of DMAX_A or DMAX_B (R33). -/
def execSetParamDmax (h : Head) (table : Byte) (e : Envelope) (s : State) :
    Host.Outcome State Fault Refusal := requestFrame (opDmax h) (recordWith e 4 table (paramId 3 h)) s

/-- SET_PARAM of PAD_GAIN_A or PAD_GAIN_B (R33). -/
def execSetParamPadGain (h : Head) (table : Byte) (e : Envelope) (s : State) :
    Host.Outcome State Fault Refusal := requestFrame (opPadGain h) (recordWith e 4 table (paramId 5 h)) s

/-- SET_PARAM of REMOVAL_K_A or REMOVAL_K_B (R53). -/
def execSetParamRemovalK (h : Head) (table : Byte) (e : Envelope) (s : State) :
    Host.Outcome State Fault Refusal := requestFrame (opRemovalK h) (recordWith e 4 table (paramId 7 h)) s

/-- SET_PARAM of SEGMENT_COUNT (R67). -/
def execSetParamSegmentCount (table : Byte) (e : Envelope) (s : State) : Host.Outcome State Fault Refusal :=
  requestFrame opSegmentCount (recordWith e 4 table 9) s

/-- SET_PARAM of PAD_REF_HEIGHT (R102). -/
def execSetParamPadRefHeight (table : Byte) (e : Envelope) (s : State) : Host.Outcome State Fault Refusal :=
  requestFrame opPadRefHeight (recordWith e 4 table 10) s

/-- SET_PARAM of PAD_AGE_LIMIT (R102). -/
def execSetParamPadAgeLimit (table : Byte) (e : Envelope) (s : State) : Host.Outcome State Fault Refusal :=
  requestFrame opPadAgeLimit (recordWith e 4 table 11) s

/-- SET_PARAM of ABRASIVE_REF_FLOW (R107). -/
def execSetParamAbrasiveRefFlow (table : Byte) (e : Envelope) (s : State) : Host.Outcome State Fault Refusal :=
  requestFrame opAbrasiveRefFlow (recordWith e 4 table 12) s

/-- SET_PARAM of READBACK_STALE_LIMIT (R176). -/
def execSetParamReadbackStaleLimit (table : Byte) (e : Envelope) (s : State) :
    Host.Outcome State Fault Refusal := requestFrame opReadbackStaleLimit (recordWith e 4 table 13) s

/-- SET_PARAM of FRAME_GAP_LIMIT (R180). -/
def execSetParamFrameGapLimit (table : Byte) (e : Envelope) (s : State) : Host.Outcome State Fault Refusal :=
  requestFrame opFrameGapLimit (recordWith e 4 table 14) s

/-- SET_PARAM of DI_RATE_n (R140). -/
def execSetParamDiRate (n : InputId) (table : Byte) (e : Envelope) (s : State) :
    Host.Outcome State Fault Refusal :=
  requestFrame (opDiRate n) (recordWith e 4 table (BitVec.ofNat 16 (16 + n.val))) s

/-- ARM (R4, R5). -/
def execArm (table : Byte) (index : BitVec 16) (e : Envelope) (s : State) : Host.Outcome State Fault Refusal :=
  requestFrame opArm (recordWith e 6 table index) s

/-- DISARM (R6). -/
def execDisarm (table : Byte) (index : BitVec 16) (e : Envelope) (s : State) :
    Host.Outcome State Fault Refusal := requestFrame opDisarm (recordWith e 7 table index) s

/-- SET_HOLD_POINT (R16, R188). -/
def execSetHoldPoint (table : Byte) (index : BitVec 16) (e : Envelope) (s : State) :
    Host.Outcome State Fault Refusal := requestFrame opSetHoldPoint (recordWith e 8 table index) s

/-- CLEAR_SOURCES (R156). -/
def execClearSources (table : Byte) (index : BitVec 16) (e : Envelope) (s : State) :
    Host.Outcome State Fault Refusal := requestFrame opClearSources (recordWith e 9 table index) s

/-- RETURN_LEVEL (R155). -/
def execReturnLevel (table : Byte) (index : BitVec 16) (e : Envelope) (s : State) :
    Host.Outcome State Fault Refusal := requestFrame opReturnLevel (recordWith e 10 table index) s

/-- RESET_RUNTIME (R189). -/
def execResetRuntime (table : Byte) (index : BitVec 16) (e : Envelope) (s : State) :
    Host.Outcome State Fault Refusal := requestFrame opResetRuntime (recordWith e 11 table index) s

end Sys2Proof.Machine
end

