-- ==== Sys2Proof/Machine/Frames.lean ====
section
/-! DEFINITION. What a frame received whole does (chapter 10): the outbound and the return handling of a cycle
frame, block by block, management frames as bytes, pass-through; and the frame rows. -/

namespace Sys2Proof.Machine

/-! ### Directives of a taken frame (R7, R87, R114, R177) -/

/-- The 4-bit count of a directive slot. -/
def slotCount (x : List Byte) : BitVec 4 := ((slotPayload x).getD 1 0).setWidth 4

/-- The code of a directive slot. -/
def slotCode (x : List Byte) : Nat := byteAt (slotPayload x) 0

/-- The endpoint flag of a head directive slot. -/
def slotEndpoint (x : List Byte) : Bool := bitAt (byteAt (slotPayload x) 1) 4

/-- A directive with an unknown code. -/
def actUnknown (s : State) : DirOutcome × State := (.badArgument, s)

/-- The head directive of a code. -/
def headAct (code : Nat) (h : Head) (s : State) : DirOutcome × State :=
  match code with
  | 1 => actStart h s
  | 2 => actHold h s
  | 3 => actResume h s
  | 4 => actStop h s
  | 5 => actVent h s
  | 6 => actRecover h s
  | _ => actUnknown s

/-- The conditioner directive of a code. -/
def condAct (code : Nat) (s : State) : DirOutcome × State :=
  match code with
  | 1 => actStartSweep s
  | 2 => actStopSweep s
  | 3 => actStep s
  | _ => actUnknown s

/-- The slurry directive of a slot. -/
def slurryAct (x : List Byte) (s : State) : DirOutcome × State :=
  match slotCode x with
  | 1 => actSelect (byteAt (slotPayload x) 2) s
  | 2 => actRelease s
  | _ => actUnknown s

/-- Count synchronisation: an unsynchronised block records the count alone, an equal count does nothing, a new
count is taken (R177). -/
def syncDirective (held : Option (BitVec 4)) (count : BitVec 4) (recordOnly taken : State → State)
    (s : State) : State :=
  match held with
  | none => recordOnly s
  | some c => if c = count then s else taken s

/-- The head's directive slot of a taken frame: the endpoint flag, then the synchronisation (R7, R177). -/
def headDirective (slots : List (List Byte)) (h : Head) (s : State) : State :=
  match ownHeadSlot s h slots with
  | none => setEndpoint h false s
  | some x =>
    syncDirective (s.head h).dirCount (slotCount x)
      (fun t => t.modHead h fun u => { u with dirCount := some (slotCount x) })
      (takeHead (headAct (slotCode x)) h (slotCount x))
      (setEndpoint h (slotEndpoint x) s)

/-- The conditioner's directive slot of a taken frame. -/
def condDirective (slots : List (List Byte)) (s : State) : State :=
  match ownSlot s kindCondDirective slots with
  | none => s
  | some x =>
    syncDirective s.cond.dirCount (slotCount x)
      (fun t => t.setCond { t.cond with dirCount := some (slotCount x) })
      (takeCond (condAct (slotCode x)) (slotCount x)) s

/-- The slurry controller's directive slot of a taken frame. -/
def slurryDirective (slots : List (List Byte)) (s : State) : State :=
  match ownSlot s kindSlurryDirective slots with
  | none => s
  | some x =>
    syncDirective s.slurry.dirCount (slotCount x)
      (fun t => t.setSlurry { t.slurry with dirCount := some (slotCount x) })
      (takeSlurry (slurryAct x) (slotCount x)) s

/-! ### The blocks' work on a taken outbound frame -/

/-- A frame being worked on: the state and the slots as they stand. -/
abbrev Work := State × List (List Byte)

/-- One block's outbound work. `slots` are the slots as received, `ranA` and `ranB` say that the head was
RUNNING at the frame's arrival (R21, R36, R75, R117, R161). -/
def outTask (slots : List (List Byte)) (ran : Head → Bool) (t : OutTask) (w : Work) : Work :=
  match t with
  | .head h => (evaluateExit (ran h) h (headDirective slots h w.1), w.2)
  | .react h => (deliverDue h w.1, w.2)
  | .zone h =>
    let s := w.1.modHead h (HeadUnit.compute w.1.cond w.1.ring.advance)
    (s, writeZoneCommands s.ring h (s.head h) w.2)
  | .cond => writeArm (advanceCounts (condDirective slots w.1)) w.2
  | .slurry => (flowPass (slurryDirective slots (decideClaim .b (decideClaim .a w.1))), w.2)

/-- The order of the blocks where the state names none. -/
def defaultOut : List OutTask := [.head .a, .react .a, .zone .a, .head .b, .react .b, .zone .b, .cond, .slurry]

/-- Task x stands before task y. -/
def comesBefore {α : Type} [DecidableEq α] (o : List α) (x y : α) : Bool := decide (o.idxOf x < o.idxOf y)

/-- An order the rules admit: every task once; a head's reactions and zones after the head (R36, R161), the
slurry controller after both heads (R117). -/
def outOrderOk (o : List OutTask) : Bool :=
  decide (o.length = 8) && defaultOut.all (fun t => decide (o.count t = 1)) &&
  comesBefore o (.head .a) (.react .a) && comesBefore o (.head .b) (.react .b) &&
  comesBefore o (.head .a) (.zone .a) && comesBefore o (.head .b) (.zone .b) &&
  comesBefore o (.head .a) .slurry && comesBefore o (.head .b) .slurry

/-- The order that the next outbound frame takes. -/
def nextOut (s : State) : List OutTask :=
  match s.outOrders with
  | [] => defaultOut
  | o :: _ => if outOrderOk o then o else defaultOut

/-- The taken frame's work, after its cycle advance is established. -/
def outboundWork (f : List Byte) (ran : Head → Bool) (s : State) : Work :=
  (nextOut s).foldl (fun w t => outTask (frameSlots f) ran t w)
    ({ s with outOrders := s.outOrders.tail }, frameSlots f)

/-- A head was RUNNING at a frame's arrival (R21). -/
def Arrival.isRunning (v : Arrival) (h : Head) : Bool := v.mode h == .running

/-- A taken outbound frame (R171): the advance, the blocks' work, then the frame with its commands at D. -/
def takeOutbound (f : List Byte) (a : Nat) (discontinuity : Bool) (v : Arrival) (s : State) : State :=
  let w := outboundWork f v.isRunning (beginFrame (frameCycle f) a discontinuity v s)
  sendD (rebuildFrame f (f.getD 1 0) w.2) w.1

/-- A valid CYCLE frame from port U: a duplicate is forwarded unchanged, any other is taken (R170, R171). -/
def handleOutbound (f : List Byte) (v : Arrival) (s : State) : State :=
  match judgeCycle s.ring.last (frameCycle f) with
  | none => sendD f s
  | some (a, discontinuity) => takeOutbound f a discontinuity v s

/-! ### The blocks' work on a return frame -/

/-- What a return's work knows of its frame: whether it is matched, its slots as received, the moment of its
arrival. -/
structure ReturnFrame where
  matched : Bool
  slots   : List (List Byte)
  arrival : Arrival
deriving DecidableEq, Repr

/-- The work of a return-pass block, done on a matched return alone (R172). -/
def onMatched (v : ReturnFrame) (f : State → State) (s : State) : State := if v.matched then f s else s

/-- One block's return work, or the filling of one kind of report slot (R49, R54, R78, R99, R123, R178,
R179). DESIGN CHOICE: a matched return that waited shows and carries the sample pending when it is taken up and its
slots are filled, not the one pending when it arrived (notes/assumptions/39.md). DESIGN CHOICE: its checks
and its increments work with the last zone commands, the commanded flows, the arm target, the presence factor and the
step that stand when it is taken up; of its arrival they take the advance, the last number and the states of heads and
conditioner (notes/assumptions/42.md). -/
def retTask (v : ReturnFrame) (t : RetTask) (w : Work) : Work :=
  let back (k : ReadbackId) : Option Nat := frameReadback w.1.ring v.slots k
  match t with
  | .track h =>
    (onMatched v (fun s => if (v.arrival.mode h).inStep then
      trackCheck v.arrival.advance h (fun z => back (.zone h z)) s else s) w.1, w.2)
  | .removal h =>
    (onMatched v (fun s => if (v.arrival.mode h).inUse then
      accumulate v.arrival.advance h (fun z => back (.zone h z)) (back (.velocity h)) s else s) w.1, w.2)
  | .arrival => (onMatched v (arrivalCheck v.arrival.cond (back .conditioner)) w.1, w.2)
  | .flow => (onMatched v (flowCheck v.arrival.advance fun c => back (.flow c)) w.1, w.2)
  | .fillStatus h => (w.1, fillSlots w.1 kindHeadStatus (statusContent w.1 h) w.2)
  | .fillSummary h =>
    (onMatched v (markCarried h (summaryParts w.1 h v.slots)) w.1,
     fillSlots w.1 kindHeadSummary (summaryContent w.1 h) w.2)
  | .fillCond => (w.1, fillSlots w.1 kindCondReport (condContent w.1) w.2)
  | .carryCond =>
    (onMatched v (fun s => if hasView0 s v.slots then s.setCond s.cond.carry else s) w.1, w.2)
  | .fillSlurry => (w.1, fillSlots w.1 kindSlurryReport (slurryContent w.1) w.2)
  | .fillPart => (w.1, fillSlots w.1 kindPartStatus (partContent w.1) w.2)

/-- The order of the return work where the state names none. -/
def defaultRet : List RetTask :=
  [.track .a, .track .b, .removal .a, .removal .b, .arrival, .flow, .fillSummary .a, .fillSummary .b,
   .fillStatus .a, .fillStatus .b, .fillCond, .carryCond, .fillSlurry, .fillPart]

/-- An order the rules admit: every task once, a sample's carriage after the COND_REPORT slots (R99). -/
def retOrderOk (o : List RetTask) : Bool :=
  decide (o.length = 14) && defaultRet.all (fun t => decide (o.count t = 1)) && comesBefore o .fillCond .carryCond

/-- The order that the next return frame takes. -/
def nextRet (s : State) : List RetTask :=
  match s.retOrders with
  | [] => defaultRet
  | o :: _ => if retOrderOk o then o else defaultRet

/-- A return is matched when its number is the last taken one at the moment of its arrival (R172). -/
def Arrival.isMatched (v : Arrival) (f : List Byte) : Bool := v.last == some (frameCycle f)

/-- The return frame's work, after its readbacks are taken. -/
def returnWork (v : ReturnFrame) (s : State) : Work :=
  (nextRet s).foldl (fun w t => retTask v t w) ({ s with retOrders := s.retOrders.tail }, v.slots)

/-- A valid CYCLE frame at port D (R172): readbacks, the blocks' work, the reports, then the frame at U. -/
def handleReturn (f : List Byte) (m : Arrival) (s : State) : State :=
  let v : ReturnFrame := ⟨m.isMatched f, frameSlots f, m⟩
  let w := returnWork v (onMatched v (takeReadbacks v.slots) s)
  sendU (rebuildFrame f (setMatched f v.matched) w.2) w.1

/-! ### Any frame (R167) -/

/-- A valid frame by its kind and port (the table of R167). -/
def handleValid (p : Port) (f : List Byte) (v : Arrival) (s : State) : State :=
  match p with
  | .u => if frameKind f = 1 then handleOutbound f v s else manage opOf (recordOf f) f s
  | .d => if frameKind f = 1 then handleReturn f v s else sendU f s

/-- A frame taken up at a port, with the moment of its arrival: forwarded unchanged in pass-through address, else
checked and handled (R167, R181). -/
def handleFrame (p : Port) (f : List Byte) (v : Arrival) (s : State) : State :=
  if passThrough s then forward p f s
  else if frameValid f then handleValid p f v s
  else takeCorrupt p f s

/-- The arrival of a valid CYCLE frame at port U, handled at once or waiting, arms and restarts the gap timer
(R180). -/
def gapAtArrival (p : Port) (f : List Byte) (s : State) : State :=
  if p == .u && !(passThrough s) && frameValid f && frameKind f == 1 then restartGap s else s

/-- A frame received whole at a port: discarded untouched when both places are full (R167). -/
def frameArrives (p : Port) (f : List Byte) (s : State) : State :=
  if 2 ≤ (heldAt s p).length then s
  else arriveAt p f (fun t => handleFrame p f (arrivalOf t) t) (gapAtArrival p f s)

/-- The oldest frame held in a direction is handled. -/
def handleHeld (p : Port) (s : State) : State :=
  match heldAt s p with
  | [] => s
  | x :: rest => handleFrame p x.frame x.arrival (setHeld p rest s)

/-! ### The meanings -/

/-- A frame received whole at port U (R171). -/
def execOutboundCycleFrame (frame : List Byte) (s : State) : Host.Outcome State Fault Refusal :=
  .next (frameArrives .u frame s)

/-- A frame received whole at port D (R172). -/
def execReturnCycleFrame (frame : List Byte) (s : State) : Host.Outcome State Fault Refusal :=
  .next (frameArrives .d frame s)

/-- A management frame, as bytes, at either port (R182). -/
def execManagementFrameForward (port : Port) (frame : List Byte) (s : State) :
    Host.Outcome State Fault Refusal := .next (frameArrives port frame s)

end Sys2Proof.Machine
end

