-- ==== Sys2Proof/Machine/Reset.lean ====
section
/-! DEFINITION. Power-on reset (R181, R191). -/

namespace Sys2Proof.Machine

/-- Every block at its power-on values and the address latched from the straps; the pins of the inputs stay at
their levels, and the model's own queue and orders stay. -/
def powerOnReset (straps : BitVec 6) (s : State) : State :=
  { State.resetWith straps (Vector.ofFn fun n => s.inputs[n].pin) with
    pending := s.pending, outOrders := s.outOrders, retOrders := s.retOrders, free := s.free }

/-- Power-on or the reset pin (R191). -/
def execPowerOnReset (straps : BitVec 6) (s : State) : Host.Outcome State Fault Refusal :=
  .next (powerOnReset straps s)

end Sys2Proof.Machine
end

