-- ==== Sys2Proof/Machine/Tick.lean ====
section
/-! DEFINITION. What the block does while no command waits: frames held are handled, and one µs of the local
time base passes (R130, R141, R167, R180; notes/assumptions/4.md and 5.md). -/

namespace Sys2Proof.Machine

/-- One µs on the sampling of an input: a sample at each rate interval, of the level its pin has (R141). -/
def tickInput (n : InputId) (s : State) : State :=
  match s.inputs[n].rate.interval with
  | none => s
  | some k =>
    if k ≤ s.inputs[n].timer + 1 then takeSample n s.inputs[n].pin s
    else s.setInput n { s.inputs[n] with timer := s.inputs[n].timer + 1 }

/-- One µs on every input, DI0 first. -/
def tickInputs (s : State) : State := allInputs.foldl (fun t n => tickInput n t) s

/-- One µs on every pulse channel (R130). -/
def tickPulse (s : State) : State :=
  s.setPulse { s.pulse with ch := Vector.ofFn fun c => (s.pulse.ch[c]).tick s.slurry.channels[c] }

/-- One µs of the local time base. In pass-through address the inputs alone are sampled (R147, R181). -/
def tick (s : State) : State := tickInputs (whenActive (fun t => tickGap (tickPulse t)) s)

/-- The block with no command waiting: the oldest frame held at U is taken up, then the oldest held at D, then one
µs passes. DESIGN CHOICE: R167 leaves either order of the two directions (notes/assumptions/37.md). -/
def idle (s : State) : State := tick (handleHeld .d (handleHeld .u s))

end Sys2Proof.Machine
end

