-- ==== Sys2Proof/Machine/Dispatch.lean ====
section
/-! DEFINITION. Dispatch: each command to its meaning. -/

namespace Sys2Proof.Machine

/-- The effect of a command on everything but the queue. -/
def exec (i : Instr) (s : State) : Host.Outcome State Fault Refusal :=
  match i with
  | .powerOnReset straps => Sys2Proof.Machine.execPowerOnReset straps s
  | .outboundCycleFrame frame => Sys2Proof.Machine.execOutboundCycleFrame frame s
  | .returnCycleFrame frame => Sys2Proof.Machine.execReturnCycleFrame frame s
  | .managementFrameForward port frame => Sys2Proof.Machine.execManagementFrameForward port frame s
  | .readbackAgeStale k => Sys2Proof.Machine.execReadbackAgeStale k s
  | .start h count endpoint => Sys2Proof.Machine.execStart h count endpoint s
  | .hold h count endpoint => Sys2Proof.Machine.execHold h count endpoint s
  | .resume h count endpoint => Sys2Proof.Machine.execResume h count endpoint s
  | .stop h count endpoint => Sys2Proof.Machine.execStop h count endpoint s
  | .vent h count endpoint => Sys2Proof.Machine.execVent h count endpoint s
  | .recover h count endpoint => Sys2Proof.Machine.execRecover h count endpoint s
  | .stepTimeExit h => Sys2Proof.Machine.execStepTimeExit h s
  | .stepCap h => Sys2Proof.Machine.execStepCap h s
  | .startSweep count => Sys2Proof.Machine.execStartSweep count s
  | .stopSweep count => Sys2Proof.Machine.execStopSweep count s
  | .step count => Sys2Proof.Machine.execStep count s
  | .condTraverseTimeout => Sys2Proof.Machine.execCondTraverseTimeout s
  | .dwellEnd => Sys2Proof.Machine.execDwellEnd s
  | .intervalTrigger => Sys2Proof.Machine.execIntervalTrigger s
  | .select count blend => Sys2Proof.Machine.execSelect count blend s
  | .release count => Sys2Proof.Machine.execRelease count s
  | .counterWrap c => Sys2Proof.Machine.execCounterWrap c s
  | .compareMatch c => Sys2Proof.Machine.execCompareMatch c s
  | .trackPersistence h z readback => Sys2Proof.Machine.execTrackPersistence h z readback s
  | .flowPersistence c readback => Sys2Proof.Machine.execFlowPersistence c readback s
  | .frameGap => Sys2Proof.Machine.execFrameGap s
  | .firstSettling n pin => Sys2Proof.Machine.execFirstSettling n pin s
  | .estopOkFalling => Sys2Proof.Machine.execEstopOkFalling s
  | .doorClosedFalling => Sys2Proof.Machine.execDoorClosedFalling s
  | .leakRising => Sys2Proof.Machine.execLeakRising s
  | .padPresentFalling => Sys2Proof.Machine.execPadPresentFalling s
  | .padPresentRising => Sys2Proof.Machine.execPadPresentRising s
  | .diskPresentFalling => Sys2Proof.Machine.execDiskPresentFalling s
  | .diskPresentRising => Sys2Proof.Machine.execDiskPresentRising s
  | .platenIndexRising => Sys2Proof.Machine.execPlatenIndexRising s
  | .waferPresentFalling h => Sys2Proof.Machine.execWaferPresentFalling h s
  | .inputEdge e => Sys2Proof.Machine.execInputEdge e s
  | .readState block page e => Sys2Proof.Machine.execReadState block page e s
  | .readEntry table index e => Sys2Proof.Machine.execReadEntry table index e s
  | .getParam table id e => Sys2Proof.Machine.execGetParam table id e s
  | .writeEntryStep h index e => Sys2Proof.Machine.execWriteEntryStep h index e s
  | .writeEntryCoupling h index e => Sys2Proof.Machine.execWriteEntryCoupling h index e s
  | .writeEntryZone h index e => Sys2Proof.Machine.execWriteEntryZone h index e s
  | .writeEntrySegment index e => Sys2Proof.Machine.execWriteEntrySegment index e s
  | .writeEntryProgram index e => Sys2Proof.Machine.execWriteEntryProgram index e s
  | .writeEntryBlend index e => Sys2Proof.Machine.execWriteEntryBlend index e s
  | .writeEntryChannel index e => Sys2Proof.Machine.execWriteEntryChannel index e s
  | .writeEntrySlotmap index e => Sys2Proof.Machine.execWriteEntrySlotmap index e s
  | .writeEntrySource index e => Sys2Proof.Machine.execWriteEntrySource index e s
  | .setParamStepCount h table e => Sys2Proof.Machine.execSetParamStepCount h table e s
  | .setParamDmax h table e => Sys2Proof.Machine.execSetParamDmax h table e s
  | .setParamPadGain h table e => Sys2Proof.Machine.execSetParamPadGain h table e s
  | .setParamRemovalK h table e => Sys2Proof.Machine.execSetParamRemovalK h table e s
  | .setParamSegmentCount table e => Sys2Proof.Machine.execSetParamSegmentCount table e s
  | .setParamPadRefHeight table e => Sys2Proof.Machine.execSetParamPadRefHeight table e s
  | .setParamPadAgeLimit table e => Sys2Proof.Machine.execSetParamPadAgeLimit table e s
  | .setParamAbrasiveRefFlow table e => Sys2Proof.Machine.execSetParamAbrasiveRefFlow table e s
  | .setParamReadbackStaleLimit table e => Sys2Proof.Machine.execSetParamReadbackStaleLimit table e s
  | .setParamFrameGapLimit table e => Sys2Proof.Machine.execSetParamFrameGapLimit table e s
  | .setParamDiRate n table e => Sys2Proof.Machine.execSetParamDiRate n table e s
  | .arm table index e => Sys2Proof.Machine.execArm table index e s
  | .disarm table index e => Sys2Proof.Machine.execDisarm table index e s
  | .setHoldPoint table index e => Sys2Proof.Machine.execSetHoldPoint table index e s
  | .clearSources table index e => Sys2Proof.Machine.execClearSources table index e s
  | .returnLevel table index e => Sys2Proof.Machine.execReturnLevel table index e s
  | .resetRuntime table index e => Sys2Proof.Machine.execResetRuntime table index e s
  | .inputSample n pin => Sys2Proof.Machine.execInputSample n pin s

end Sys2Proof.Machine
end

