-- ==== Sys2Proof/Safety.lean ====
section
/-! DEFINITION. What the part keeps at all times, in the manual's terms: the invariants that the statements say
every step keeps, and the frames the statements use. -/

namespace Sys2Proof.Machine

/-! ### Invariants -/

/-- Sources 0 and 1 are fixed at enable on, level 7, VENT; no other source has level 7; no source is pending
above the response level; the current response and the stack have strictly falling levels from the current one
down, all from 1; level 7 belongs to sources 0 and 1 with reaction VENT; at level 0 the stack is empty (R150,
R152, R154). -/
structure ArbiterInv (f : Arbiter) : Prop where
  fixed : ∀ i : SourceId, i.val < 2 →
    f.sources[i].enable = true ∧ f.sources[i].level = 7 ∧ f.sources[i].reaction = .vent
  belowSeven : ∀ i : SourceId, 2 ≤ i.val → f.sources[i].level ≤ 6
  nothingAbove : ∀ i : SourceId, f.sources[i].isPending = true → f.sources[i].level ≤ f.level
  rising : (f.current.toList ++ f.stack).Pairwise fun x y => y.level < x.level
  positive : ∀ r ∈ f.current.toList ++ f.stack, 1 ≤ r.level ∧ r.level ≤ 7
  seven : ∀ r ∈ f.current.toList ++ f.stack, r.level = 7 → r.source.val < 2 ∧ r.reaction = .vent
  atZero : f.current = none → f.stack = []

/-- The current blend is NONE exactly when the owner set is empty; the supply is on only with a blend current; a
channel runs exactly with its enable and the supply on, and is inactive while it does not (R109, R128, R135). -/
structure SupplyInv (s : State) : Prop where
  blendOwned : s.slurry.blend = none ↔ s.slurry.owners.isEmpty = true
  supplied : s.pulse.supply = true → s.slurry.blend.isSome = true
  runs : ∀ c : Channel, s.pulse.ch[c].running = (s.slurry.channels[c].enable && s.pulse.supply)
  silent : ∀ c : Channel, s.pulse.ch[c].running = false → s.pulse.ch[c].active = false ∧ s.pulse.ch[c].first = false

/-- What a head's sequencer keeps: no cause in RUNNING, at least one in HELD, none elsewhere, a pending step in
HELD alone, the loop counter 0 outside a step, the IDLE values of R6, a vent level in VENTED alone, a summary in
COMPLETE (R15, R18, R6, R14, R26). -/
structure HeadInv (u : HeadUnit) : Prop where
  running : u.mode = .running → u.causes.isEmpty = true
  held : u.mode = .held → u.causes.isEmpty = false
  outside : u.mode.inStep = false → u.causes.isEmpty = true ∧ u.pendingStep = none ∧ u.loopCounter = 0
  deferred : u.pendingStep.isSome = true → u.mode = .held
  idle : u.mode = .idle → u.summary = none ∧ u.current = none
  vent : u.mode ≠ .vented → u.ventLevel = 0
  complete : u.mode = .complete → u.summary.isSome = true

/-- What the claims of a head keep: an owner or a head with an undecided claim is RUNNING or HELD; a head waits
exactly while BLEND_WAIT is in its cause set, and is then HELD and no owner (R20, R109, R111). -/
structure ClaimInv (s : State) (h : Head) : Prop where
  owner : s.slurry.owners.has (.head h) = true → (s.head h).mode.inStep = true
  undecided : (s.slurry.undecided h).isSome = true → (s.head h).mode.inStep = true
  waits : (s.slurry.wait h).isSome = true ↔ (s.head h).causes.blendWait = true
  waiting : (s.slurry.wait h).isSome = true →
    (s.head h).mode = .held ∧ s.slurry.owners.has (.head h) = false ∧ s.slurry.undecided h = none

/-- The heads and their claims. -/
def HeadsInv (s : State) : Prop := ∀ h : Head, HeadInv (s.head h) ∧ ClaimInv s h

/-- No head is RUNNING, nor HELD, while the response level is 7 (R160). -/
def LevelSevenInv (s : State) : Prop := s.faults.level = 7 → ∀ h : Head, (s.head h).mode.inStep = false

/-- The step accumulator of a zone is never above its wafer accumulator, and neither is above 2⁴⁸ − 1 (R51). -/
def RemovalInv (s : State) : Prop :=
  ∀ h : Head, ∀ k : Fin 7, (s.head h).stepAcc[k] ≤ (s.head h).waferAcc[k] ∧ (s.head h).waferAcc[k] ≤ 2 ^ 48 - 1

/-- A sample is staged exactly in REPORT_HOLD, behind a pending one, in PROTECT mode and with a continuation
chosen (R98). -/
structure SampleInv (c : Conditioner) : Prop where
  staged : c.stagedSample.isSome = true ↔ c.mode = .reportHold
  behind : c.stagedSample.isSome = true → c.pendingSample.isSome = true
  protect : c.stagedSample.isSome = true → c.program.map (·.report) = some .protect
  continues : c.mode = .reportHold → c.cont ≠ .none

/-- Each delay line holds exactly D_c values (R119). -/
def DelayInv (s : State) : Prop :=
  ∀ c : Channel, (s.slurry.flows[c]).line.length = s.slurry.channels[c].delay

/-- Each binding is held by at most one entry of the slot map, each slot matches at most one entry, and no entry
has the part's own address (R173). -/
structure SlotMapInv (s : State) : Prop where
  binding : ∀ i j : Fin 48, ∀ x ∈ s.ring.slotMap[i], ∀ y ∈ s.ring.slotMap[j], x.binding = y.binding → i = j
  address : ∀ i j : Fin 48, ∀ x ∈ s.ring.slotMap[i], ∀ y ∈ s.ring.slotMap[j],
    x.node = y.node → x.kind = y.kind → i = j
  others : ∀ i : Fin 48, ∀ x ∈ s.ring.slotMap[i], x.node ≠ ownByte s

/-- Outside IDLE a head's recipe passes checks 1 to 8 of R4, the blends its steps name defined in the blend table
`x` (R4, R31, R105); check 8 in the reading of notes/assumptions/33.md. The slot map of check 9 may change. -/
structure ArmedInv (x : Slurry) (u : HeadUnit) : Prop where
  count : u.mode ≠ .idle → 1 ≤ u.stepCount
  zones : u.mode ≠ .idle → zoneConfigOk u = true
  steps : u.mode ≠ .idle → ∀ j, j < u.stepCount → ∃ st, u.step j = some st ∧ targetsOk u st = true ∧
    removalFieldsOk st = true ∧ blendDefined x st = true ∧ loopTargetOk j st = true ∧ loopDisjoint u j st = true
  current : u.mode.inStep = true → ∀ j ∈ u.current, j < u.stepCount
  pending : u.mode.inStep = true → ∀ j ∈ u.pendingStep, j < u.stepCount

/-! ### Frames: what stays -/

/-- Nothing but the unit of one head differs. -/
def OnlyHead (h : Head) (s t : State) : Prop := t = s.setHead h (t.head h)

/-- Nothing but the conditioner differs. -/
def OnlyCond (s t : State) : Prop := t = s.setCond t.cond

/-- Nothing but the fault sources' statuses and, where one is taken, the response differs. -/
def OnlyFaults (s t : State) : Prop := t = s.setFaults t.faults

/-- What no directive and no event of the platen reaches: the queue, the address, the ring interface, the hold
points, the inputs and the model's own orders and count. -/
def SameSurroundings (s t : State) : Prop :=
  t.pending = s.pending ∧ t.address = s.address ∧ t.ring = s.ring ∧ t.holdPoints = s.holdPoints ∧
    t.inputs = s.inputs ∧ t.outOrders = s.outOrders ∧ t.retOrders = s.retOrders ∧ t.free = s.free

/-- The tables and parameters of every block: nothing but a management write changes them (R184). -/
def SameTables (s t : State) : Prop :=
  (∀ h : Head, (t.head h).steps = (s.head h).steps ∧ (t.head h).stepCount = (s.head h).stepCount ∧
    (t.head h).zoneConf = (s.head h).zoneConf ∧ (t.head h).coupling = (s.head h).coupling ∧
    (t.head h).dmax = (s.head h).dmax ∧ (t.head h).padGain = (s.head h).padGain ∧
    (t.head h).removalK = (s.head h).removalK) ∧
  t.cond.segments = s.cond.segments ∧ t.cond.segCount = s.cond.segCount ∧ t.cond.program = s.cond.program ∧
  t.cond.padRef = s.cond.padRef ∧ t.cond.padAgeLimit = s.cond.padAgeLimit ∧
  t.slurry.blends = s.slurry.blends ∧ t.slurry.channels = s.slurry.channels ∧
  t.slurry.abrasiveRef = s.slurry.abrasiveRef ∧ t.ring.slotMap = s.ring.slotMap ∧
  t.ring.staleLimit = s.ring.staleLimit ∧ t.ring.gapLimit = s.ring.gapLimit ∧
  (∀ n : InputId, t.inputs[n].rate = s.inputs[n].rate) ∧
  (∀ i : SourceId, t.faults.sources[i].enable = s.faults.sources[i].enable ∧
    t.faults.sources[i].level = s.faults.sources[i].level ∧
    t.faults.sources[i].reaction = s.faults.sources[i].reaction)

/-! ### Terms the statements use -/

/-- The commands reach the blocks: the address is the part's own, and no reaction is left to deliver. -/
def Ready (s : State) : Prop := passThrough s = false ∧ s.due = []

/-- A head with a taken directive's count, outcome and endpoint flag recorded. -/
def recorded (count : BitVec 4) (endpoint : Bool) (o : DirOutcome) (u : HeadUnit) : HeadUnit :=
  { u with dirCount := some count, outcome := some o, endpoint := endpoint }

/-- The conditioner with a taken directive's count and outcome recorded. -/
def recordedCond (count : BitVec 4) (o : DirOutcome) (c : Conditioner) : Conditioner :=
  { c with dirCount := some count, outcome := some o }

/-- The slurry controller with a taken directive's count and outcome recorded. -/
def recordedSlurry (count : BitVec 4) (o : DirOutcome) (x : Slurry) : Slurry :=
  { x with dirCount := some count, outcome := some o }

/-- The head is as given, but for its conditioner-unavailable mark. -/
def SameButMark (u v : HeadUnit) : Prop := u = { v with condUnavailable := u.condUnavailable }

/-- The other head. -/
def otherHead : Head → Head
  | .a => .b
  | .b => .a

/-- What R18 says of the shared blocks when a head leaves RUNNING or HELD. -/
structure Withdrawn (h : Head) (t : State) : Prop where
  owner : t.slurry.owners.has (.head h) = false
  wait : t.slurry.wait h = none
  undecided : t.slurry.undecided h = none
  demand : t.cond.demand.has (.head h) = false

/-- Step j, with entry st, has been begun in a head that was as `u` (R19, items 1 to 5). -/
structure Begun (j : Nat) (st : StepEntry) (u v : HeadUnit) : Prop where
  mode : v.mode = .running
  current : v.current = some j
  pending : v.pendingStep = none
  timer : v.timer = 0
  step : ∀ k : Fin 7, v.stepAcc[k] = 0
  wafer : v.waferAcc = u.waferAcc
  targets : ∀ z : Zone, v.zones[z] = { u.zones[z] with target := st.targets[z], rate := st.rates[z] }
  executed : v.stepsExecuted = min 65535 (u.stepsExecuted + 1)
  loop : v.loopCounter = u.loopCounter

/-- A head is in RAMPDOWN with the given end cause, its targets the release pressures (R25, R18). -/
structure RampingDown (cause : EndCause) (u v : HeadUnit) : Prop where
  mode : v.mode = .rampdown
  endCause : v.endCause = some cause
  causes : v.causes = HoldCauses.none
  pending : v.pendingStep = none
  loop : v.loopCounter = 0
  current : v.current = u.current
  timer : v.timer = u.timer
  targets : ∀ z : Zone, v.zones[z] =
    { u.zones[z] with target := u.zoneConf[z].release, rate := u.zoneConf[z].rampRate }

/-- A waiting claim of a head examined by the three cases of R110: granted, it stops waiting; else it stays (R113). -/
def granted (h : Head) (x : Slurry) : Slurry :=
  match x.wait h with
  | none => x
  | some n =>
    if x.owners = Parties.empty ∨ x.blend = some n ∨ x.owners = Parties.empty.put (.head h) true then
      ({ x with blend := some n, owners := x.owners.put (.head h) true } : Slurry).setWait h none
    else x

/-- The waiting claims examined, head A's first and then head B's against what the first leaves (R113). -/
def reexamined (x : Slurry) : Slurry := granted .b (granted .a x)

/-- A member leaves the owner set: emptied, it leaves the blend NONE; and the waiting claims are examined (R109, R112,
R113). No member leaves nothing. -/
def departed (p : Party) (x : Slurry) : Slurry :=
  if x.owners.has p = true then
    reexamined { x with
      owners := x.owners.put p false
      blend := if x.owners.put p false = Parties.empty then none else x.blend }
  else x

/-- A head whose waiting claim is granted: BLEND_WAIT leaves its cause set, and HELD by no other cause it is RUNNING
again (R15, R20). -/
def unblocked (u : HeadUnit) : HeadUnit :=
  let rest : HoldCauses := { u.causes with blendWait := false }
  { u with causes := rest, mode := if u.mode = .held ∧ rest = HoldCauses.none then .running else u.mode }

/-- A head that waits for its blend has BLEND_WAIT in its cause set and no deferred step, so that its grant enters
none. -/
def WaitsForBlendAlone (s : State) (h : Head) : Prop :=
  (s.slurry.wait h).isSome = true → (s.head h).causes.blendWait = true ∧ (s.head h).pendingStep = none

/-- A head after the slurry controller's work of t: as it was in s, or unblocked when its claim waits no longer. -/
def Notified (h : Head) (s t : State) : Prop :=
  t.head h = if t.slurry.wait h = s.slurry.wait h then s.head h else unblocked (s.head h)

/-- A channel starts: the counter is 0, the first-period mark is set, the output is inactive (R129). -/
def started (x : PulseChannel) : PulseChannel :=
  { x with running := true, first := true, counter := 0, phase := 0, active := false }

/-- A channel stops where it stands, and keeps counter, buffer and compare (R133). -/
def stopped (x : PulseChannel) : PulseChannel := { x with running := false, first := false, active := false }

/-- What the pulse unit does when the blend goes from that of s to that of t, `emptied` saying that it was NONE in
between: from NONE every enabled channel starts, to NONE every running one stops, through NONE it stops and starts
again, and a switch leaves all as it is (R109, R128, R129, R133, R135). -/
structure PulseFollows (emptied : Prop) (s t : State) : Prop where
  switch : ¬ emptied → (s.slurry.blend = none ↔ t.slurry.blend = none) → t.pulse = s.pulse
  on : s.slurry.blend = none → t.slurry.blend ≠ none → t.pulse.supply = true ∧ ∀ c : Channel,
    t.pulse.ch[c] = if s.slurry.channels[c].enable = false then
      (if (s.pulse.ch[c]).running = true then stopped s.pulse.ch[c] else s.pulse.ch[c])
      else if (s.pulse.ch[c]).running = true then s.pulse.ch[c] else started s.pulse.ch[c]
  off : s.slurry.blend ≠ none → t.slurry.blend = none → t.pulse.supply = false ∧ ∀ c : Channel,
    t.pulse.ch[c] = if (s.pulse.ch[c]).running = true then stopped s.pulse.ch[c] else s.pulse.ch[c]
  again : emptied → s.slurry.blend ≠ none → t.slurry.blend ≠ none → t.pulse.supply = true ∧ ∀ c : Channel,
    t.pulse.ch[c] = if s.slurry.channels[c].enable = true then started s.pulse.ch[c]
      else if (s.pulse.ch[c]).running = true then stopped s.pulse.ch[c] else s.pulse.ch[c]

/-- The blend field of a step that head h enters: absent it changes nothing, with an index the claim waits for its
decision, RELEASE takes the head out of the owner set (R19, R111, R112). RELEASE is said of a head that does not wait,
with the other head waiting for its blend alone or not at all. -/
structure BlendHanded (h : Head) (f : BlendField) (s t : State) : Prop where
  absent : f = .absent → t.slurry = s.slurry ∧ t.pulse = s.pulse
  index : ∀ n, f = .index n → t.slurry = s.slurry.setUndecided h (some n) ∧ t.pulse = s.pulse
  release : f = .release → s.slurry.wait h = none → WaitsForBlendAlone s (otherHead h) →
    t.slurry = departed (.head h) s.slurry ∧
    SameButMark (t.head (otherHead h)) (if t.slurry.wait (otherHead h) = s.slurry.wait (otherHead h)
      then s.head (otherHead h) else unblocked (s.head (otherHead h))) ∧
    PulseFollows (s.slurry.owners = Parties.empty.put (.head h) true) s t

/-- The start of the program (R73). -/
def programStarted (p : Program) (c : Conditioner) : Conditioner :=
  { c with
    mode := .traverse, fresh := true, current := some p.startSeg, traverse := 0, timeoutMark := false, cont := .none
    leg := none, dwell := 0, interval := 0, startReq := false }

/-- The start check of R73 is met: a defined program with its segments, the pad and the disk present. -/
def StartMet (s : State) (p : Program) : Prop :=
  s.cond.program = some p ∧ s.cond.segmentsOk p = true ∧ satisfied s Di.padPresent = true ∧
    satisfied s Di.diskPresent = true

/-- The conditioning field of a step that head h enters (R19, R71 to R73, R85). ON makes the head a member and, in
PARKED and LIFTING, a start request; from PARKED the start check follows at once, which starts the program, or marks
every head in the demand set. OFF takes the head out of the set; emptied, the start request goes and the arm lifts.
`mark` is the conditioner-unavailable mark of each head before. RELEASE in the blend field is said as in BlendHanded. -/
structure Conditioned (h : Head) (f : CondField) (b : BlendField) (mark : Head → Bool) (s t : State) : Prop where
  effect : (b = .release → s.slurry.wait h = none ∧ WaitsForBlendAlone s (otherHead h)) →
    let joined : Conditioner := { s.cond with
      demand := s.cond.demand.put (.head h) true
      startReq := s.cond.startReq || decide (s.cond.mode = .parked ∨ s.cond.mode = .lifting) }
    let rest : Parties := s.cond.demand.put (.head h) false
    (f = .absent → t.cond = s.cond) ∧
    (f = .on → s.cond.mode ≠ .parked → t.cond = joined) ∧
    (f = .on → s.cond.mode = .parked → (∀ p, StartMet s p → t.cond = programStarted p joined) ∧
      ((∀ p, ¬ StartMet s p) → t.cond = joined)) ∧
    (f = .off → (s.cond.demand.has (.head h) = false → t.cond = s.cond) ∧
      (s.cond.demand.has (.head h) = true →
        (rest ≠ Parties.empty → t.cond = { s.cond with demand := rest }) ∧
        (rest = Parties.empty → (s.cond.mode = .parked ∨ s.cond.mode = .lifting) →
          t.cond = { s.cond with demand := rest, startReq := false }) ∧
        (rest = Parties.empty → s.cond.mode ≠ .parked → s.cond.mode ≠ .lifting →
          t.cond = { s.cond with
            demand := rest, startReq := false, mode := .lifting, fresh := true, cont := .none, leg := none
            stagedSample := none }))) ∧
    ∀ k : Head,
      ((f = .on ∧ s.cond.mode = .parked ∧ (∀ p, ¬ StartMet s p) ∧ joined.demand.has (.head k) = true) →
        (t.head k).condUnavailable = true) ∧
      ((f ≠ .on ∨ s.cond.mode ≠ .parked ∨ (∃ p, StartMet s p) ∨ joined.demand.has (.head k) = false) →
        (t.head k).condUnavailable = mark k)

/-- The marks of the heads when head h enters a step as `u`. -/
def marks (h : Head) (u : HeadUnit) (s : State) (k : Head) : Bool :=
  if k = h then u.condUnavailable else (s.head k).condUnavailable

/-- Step k is entered in a head that was as `u`: begun, its blend and conditioning fields handed to the blocks, or,
against a hold point, deferred, with the step in force as it was and the status of HOLD_POINT set (R16, R19). The
deferral is said for a HOLD_POINT source whose reaction is NOTIFY, as after power-on reset; other reactions follow by
R161, as ProvokedReactionsReachTheHead says. -/
structure EntersStep (h : Head) (k : Nat) (u : HeadUnit) (s t : State) : Prop where
  begun : ∀ st, holdPointHit s h k = false → u.step k = some st → Begun k st u (t.head h) ∧
    BlendHanded h st.blend s t ∧ Conditioned h st.conditioning st.blend (marks h u s) s t
  deferred : ArbiterInv s.faults → s.faults.sources[Src.holdPoint].reaction = .notify →
    holdPointHit s h k = true →
    t = (s.setHead h { u with
      pendingStep := some k, mode := .held, causes := { u.causes with holdPoint := true } }).setFaults t.faults ∧
    t.faults.sources[Src.holdPoint].status = true

/-- The normal exit of step j, with entry st, of a head that is as `u` after the exit's timer and counts (R24): the
loop target with the counter one higher while repeats are left; else the next step, a used-up counter at 0; after the
last step RAMPDOWN with end cause NORMAL. -/
structure NormalExit (h : Head) (j : Nat) (st : StepEntry) (u : HeadUnit) (s t : State) : Prop where
  repeats : ∀ l, st.loop = some l → u.loopCounter < l.count →
    EntersStep h l.target { u with loopCounter := u.loopCounter + 1 } s t
  usedUp : ∀ l, st.loop = some l → l.count ≤ u.loopCounter → j + 1 < u.stepCount →
    EntersStep h (j + 1) { u with loopCounter := 0 } s t
  plain : st.loop = none → j + 1 < u.stepCount → EntersStep h (j + 1) u s t
  last : (∀ l ∈ st.loop, l.count ≤ u.loopCounter) → u.stepCount ≤ j + 1 →
    RampingDown .normal u (t.head h) ∧ Withdrawn h t

/-- The conditioner is as given, but for the last command written on the frame and the model's own mark of a state
entered on it. -/
def SameArm (c d : Conditioner) : Prop := c = { d with lastCmd := c.lastCmd, fresh := c.fresh }

/-- The conditioner `q` has made the count of its state on a taken frame of advance a, and stands as `c`: none in a
state entered on the frame; in TRAVERSE the traverse timer up to its limit, with the mark there; in SWEEPING the dwell
counter, and at the dwell what the row DWELL_END does; in STEP_WAIT the interval counter, and at the interval what the
row INTERVAL_TRIGGER does (R75, R79, R80, R84). -/
structure Counted (entered : Prop) (p : Program) (a : Nat) (q : State) (c : Conditioner) : Prop where
  still : (entered ∨ q.cond.mode = .parked ∨ q.cond.mode = .lifting ∨ q.cond.mode = .reportHold) → SameArm c q.cond
  traverse : ¬ entered → q.cond.mode = .traverse → SameArm c { q.cond with
    traverse := min p.traverseLimit (q.cond.traverse + a)
    timeoutMark := q.cond.timeoutMark || decide (p.traverseLimit ≤ q.cond.traverse + a) }
  dwell : ∀ k x, ¬ entered → q.cond.mode = .sweeping → q.cond.current = some k → q.cond.segment k = some x →
    (min 65535 (q.cond.dwell + a) < x.dwell → SameArm c { q.cond with dwell := min 65535 (q.cond.dwell + a) }) ∧
    (x.dwell ≤ min 65535 (q.cond.dwell + a) → ∃ w, exec .dwellEnd q = .next w ∧ SameArm c w.cond)
  interval : ¬ entered → q.cond.mode = .stepWait →
    ((p.trigInterval = false ∨ min 65535 (q.cond.interval + a) < p.interval) →
      SameArm c { q.cond with interval := min 65535 (q.cond.interval + a) }) ∧
    (p.trigInterval = true → p.interval ≤ min 65535 (q.cond.interval + a) →
      ∃ w, exec .intervalTrigger q = .next w ∧ SameArm c w.cond)

/-- The pad profile a frame of advance a older (R95). -/
def agedCond (a : Nat) (c : Conditioner) : Conditioner :=
  { c with profile := Vector.ofFn fun k => (c.profile[k]).map fun e => ⟨e.height, min 65535 (e.age + a)⟩ }

/-- The head has no step exit on a frame of advance a that carries no endpoint flag for it: it is not RUNNING, or its
timer stays below its duration and the removal of its reference zone is not reached (R21, R22). -/
def GoesOn (a : Nat) (u : HeadUnit) : Prop :=
  u.mode ≠ .running ∨ ∃ j ∈ u.current, ∃ st ∈ u.step j, u.timer + a < st.duration ∧
    ¬ ((st.exitKind = .removal ∨ st.exitKind = .removalOrEndpoint) ∧
      ∃ z ∈ st.refZone, ∃ n ∈ st.removalTarget, n * 65536 ≤ u.stepAcc[z])

/-- A request's record reaches the responder: the part is not in pass-through, no frame is held at port U, the
record is addressed to the part and not yet answered (R167, R181, R182). -/
structure Executed (s : State) (e : Envelope) : Prop where
  active : passThrough s = false
  free : s.ring.heldU = []
  target : e.target = ownByte s
  status : e.status = 0xFF#8

/-- The answer of a request row: its frame leaves at port D over the state after the request. -/
def answeredWith (r : Record) (st : Status) (data : List Byte) (mark : Bool) (t : State) : State :=
  sendD (r.answered ⟨st, data, mark, t⟩) t

/-- The record that a request row's frame carries, none for the rows that are no request (R182, R184). -/
def requestRecord : Instr → Option Record
  | .readState b p e => some (recordWith e 1 b p)
  | .writeEntryStep h i e => some (recordWith e 2 (tableOf 1 h) i)
  | .writeEntryCoupling h i e => some (recordWith e 2 (tableOf 3 h) i)
  | .writeEntryZone h i e => some (recordWith e 2 (tableOf 5 h) i)
  | .writeEntrySegment i e => some (recordWith e 2 7 i)
  | .writeEntryProgram i e => some (recordWith e 2 8 i)
  | .writeEntryBlend i e => some (recordWith e 2 9 i)
  | .writeEntryChannel i e => some (recordWith e 2 10 i)
  | .writeEntrySlotmap i e => some (recordWith e 2 11 i)
  | .writeEntrySource i e => some (recordWith e 2 12 i)
  | .readEntry b i e => some (recordWith e 3 b i)
  | .setParamStepCount h b e => some (recordWith e 4 b (paramId 1 h))
  | .setParamDmax h b e => some (recordWith e 4 b (paramId 3 h))
  | .setParamPadGain h b e => some (recordWith e 4 b (paramId 5 h))
  | .setParamRemovalK h b e => some (recordWith e 4 b (paramId 7 h))
  | .setParamSegmentCount b e => some (recordWith e 4 b 9)
  | .setParamPadRefHeight b e => some (recordWith e 4 b 10)
  | .setParamPadAgeLimit b e => some (recordWith e 4 b 11)
  | .setParamAbrasiveRefFlow b e => some (recordWith e 4 b 12)
  | .setParamReadbackStaleLimit b e => some (recordWith e 4 b 13)
  | .setParamFrameGapLimit b e => some (recordWith e 4 b 14)
  | .setParamDiRate n b e => some (recordWith e 4 b (BitVec.ofNat 16 (16 + n.val)))
  | .getParam b i e => some (recordWith e 5 b i)
  | .arm b i e => some (recordWith e 6 b i)
  | .disarm b i e => some (recordWith e 7 b i)
  | .setHoldPoint b i e => some (recordWith e 8 b i)
  | .clearSources b i e => some (recordWith e 9 b i)
  | .returnLevel b i e => some (recordWith e 10 b i)
  | .resetRuntime b i e => some (recordWith e 11 b i)
  | _ => none

/-- Slot i of a frame. -/
def slotOf (f : List Byte) (i : Nat) : List Byte := (f.drop (8 + 16 * i)).take 16

/-- The slot is one that the slot map binds to a command of the part (R174). -/
def carriesCommand (r : Ring) (x : List Byte) : Prop :=
  (∃ e, slotFor r .condCommand = some e ∧ slotMatches e x = true) ∨
    ∃ h z e, slotFor r (.zoneCommand h z) = some e ∧ slotMatches e x = true

/-- Check 2 of R4. -/
def zonesPass (u : HeadUnit) : Prop :=
  (∀ z : Zone, u.zoneConf[z].lmin ≤ u.zoneConf[z].lmax ∧ u.zoneConf[z].release ≤ u.zoneConf[z].lmax) ∧
    ∀ k : Fin 6, distance u.zoneConf[k.val].lmin u.zoneConf[k.val + 1].lmin ≤ u.dmax

/-- What check n of R4, from 3 to 8, asks of step j. Check 8 is read of the steps that carry a loop field
(notes/assumptions/33.md). -/
def stepPasses (s : State) (h : Head) (j : Nat) : Nat → Prop
  | 3 => ((s.head h).step j).isSome = true
  | 4 => ∀ st, (s.head h).step j = some st → ∀ z : Zone,
    (s.head h).zoneConf[z].lmin ≤ st.targets[z] ∧ st.targets[z] ≤ (s.head h).zoneConf[z].lmax
  | 5 => ∀ st, (s.head h).step j = some st → st.exitKind = .removal ∨ st.exitKind = .removalOrEndpoint →
    st.removalTarget.isSome = true ∧ st.refZone.isSome = true
  | 6 => ∀ st, (s.head h).step j = some st → ∀ n, st.blend = .index n → (s.slurry.entry n).isSome = true
  | 7 => ∀ st, (s.head h).step j = some st → ∀ l, st.loop = some l → l.target ≤ j
  | 8 => ∀ st, (s.head h).step j = some st → st.loop.isSome = true → ∀ k, k < (s.head h).stepCount →
    ∀ st', (s.head h).step k = some st' → ∀ l, st'.loop = some l → ¬ (l.target ≤ j ∧ j < k)
  | _ => True

/-- Step j passes the checks of R4 from 3 up to, and not including, check c. -/
def passesBefore (s : State) (h : Head) (j c : Nat) : Prop := ∀ n, n < c → stepPasses s h j n

/-- What R4 asks of a recipe before its head is armed. -/
structure RecipeValid (s : State) (h : Head) : Prop where
  count : 1 ≤ (s.head h).stepCount
  zones : zonesPass (s.head h)
  steps : ∀ j, j < (s.head h).stepCount → passesBefore s h j 9
  bound : ∀ z : Zone, (slotFor s.ring (.zoneCommand h z)).isSome = true

/-- The commands that write tables and parameters, raw management frames and power-on reset. -/
def configures : Instr → Bool
  | .powerOnReset _ | .managementFrameForward _ _ | .writeEntryStep _ _ _ | .writeEntryCoupling _ _ _
  | .writeEntryZone _ _ _ | .writeEntrySegment _ _ | .writeEntryProgram _ _ | .writeEntryBlend _ _
  | .writeEntryChannel _ _ | .writeEntrySlotmap _ _ | .writeEntrySource _ _ | .setParamStepCount _ _ _
  | .setParamDmax _ _ _ | .setParamPadGain _ _ _ | .setParamRemovalK _ _ _ | .setParamSegmentCount _ _
  | .setParamPadRefHeight _ _ | .setParamPadAgeLimit _ _ | .setParamAbrasiveRefFlow _ _
  | .setParamReadbackStaleLimit _ _ | .setParamFrameGapLimit _ _ | .setParamDiRate _ _ _ => true
  | _ => false

end Sys2Proof.Machine
end

