-- ==== Sys2Proof/Certificates/Slice0/Obligations.lean ====
section
/-! DEFINITION. The statements for the provers. -/

open Sys2Proof Sys2Proof.Machine

/-! ### Steps and the whole machine -/

/-- A step takes the command at the front of the queue and answers what exec answers with the queue's rest
(00_scope section 3.4). -/
def Obligations.StepRunsTheFrontCommand : Prop :=
  ∀ (c : Instr) (q : List Instr) (s : State), step (s.setPending (c :: q)) = exec c (s.setPending q)

/-- Every command is carried out, in every state: there is no stop, in the model's own reading
(notes/assumptions/26.md). None touches the queue, and none but power-on reset touches the latched address (R181). -/
def Obligations.EveryCommandCompletes : Prop :=
  ∀ (i : Instr) (s : State), ∃ t, exec i s = .next t ∧ t.pending = s.pending ∧
    ((∀ x, i ≠ .powerOnReset x) → t.address = s.address)

/-- Tables and parameters change by WRITE_ENTRY and SET_PARAM alone, and by power-on reset: every other
well-formed command keeps all of them, RESET_RUNTIME too (R184, R189). -/
def Obligations.TablesHold : Prop :=
  ∀ (i : Instr) (s t : State), i.wellFormed = true → configures i = false → exec i s = .next t → SameTables s t

/-- A reaction that a head's own handling provoked is delivered before the step ends: nothing is left due
between steps (R161). -/
def Obligations.NothingLeftDue : Prop := ∀ s t : State, s.due = [] → step s = .next t → t.due = []

/-- A step with no command waiting and no frame held lets one µs pass, the model's choice (notes/assumptions/4.md). A
running gap timer counts, and expires at its limit with the status of FRAME_GAP set (R180). Each running pulse counter
counts its µs, advances once every prescale µs, and wraps after its last value (R130, R131). Each input whose interval
is over takes one sample of its pin, and accepts three equal ones (R141). With no sample due and no expiry nothing
else changes. The counters' clauses are said for a step that takes no response; what a response stops is said by
ReactionsReachTheBlocks. -/
def Obligations.IdleStepPassesTime : Prop :=
  ∀ s : State, s.pending = [] → s.ring.heldU = [] → s.ring.heldD = [] →
    let every (r : DiRate) : Nat := match r with
      | .off => 0 | .us10 => 10 | .us100 => 100 | .us1000 => 1000
    let sampled (n : InputId) : Prop := s.inputs[n].rate ≠ .off ∧ every s.inputs[n].rate ≤ s.inputs[n].timer + 1
    let expires : Prop := passThrough s = false ∧ ∃ k, s.ring.gap = .running k ∧ s.ring.gapLimit ≤ k + 1
    ∃ t, step s = .next t ∧ t.pending = [] ∧ t.address = s.address ∧ SameTables s t ∧
      t.ring = { s.ring with gap := t.ring.gap } ∧
      (∀ k, passThrough s = false → s.ring.gap = .running k → k + 1 < s.ring.gapLimit →
        t.ring.gap = .running (k + 1)) ∧
      (∀ k, passThrough s = false → s.ring.gap = .running k → s.ring.gapLimit ≤ k + 1 →
        t.ring.gap = .expired ∧ (t.faults.sources[Src.frameGap]).status = true) ∧
      ((passThrough s = true ∨ s.ring.gap = .unarmed ∨ s.ring.gap = .expired) → t.ring.gap = s.ring.gap) ∧
      (∀ n : InputId, let x := s.inputs[n]
        let v : Bool := if n = Di.leak then !x.pin else x.pin
        let hist : List Bool := (x.history ++ [v]).drop (x.history.length - 2)
        (x.rate = .off → t.inputs[n] = x) ∧
        (x.rate ≠ .off → ¬ sampled n → t.inputs[n] = { x with timer := x.timer + 1 }) ∧
        (sampled n → t.inputs[n] = { x with
          timer := 0, history := hist, accepted := if hist = [v, v, v] then some v else x.accepted })) ∧
      (passThrough s = true → t.pulse = s.pulse) ∧
      (passThrough s = false → t.faults = s.faults → t.pulse.supply = s.pulse.supply ∧ ∀ c : Channel,
        let x := s.pulse.ch[c]
        let k := s.slurry.channels[c]
        (x.running = false → t.pulse.ch[c] = x) ∧
        (x.running = true → x.phase + 1 < k.prescale → t.pulse.ch[c] = { x with phase := x.phase + 1 }) ∧
        (x.running = true → k.prescale ≤ x.phase + 1 → x.counter + 1 < 2 ^ k.resolution →
          t.pulse.ch[c] = { x with
            counter := x.counter + 1, phase := 0
            active := x.active && (x.first || decide (x.counter + 1 ≠ x.compare)) }) ∧
        (x.running = true → k.prescale ≤ x.phase + 1 → 2 ^ k.resolution ≤ x.counter + 1 →
          t.pulse.ch[c] = { x with
            counter := 0, phase := 0, compare := x.buffer, first := false, active := decide (0 < x.buffer) })) ∧
      ((∀ n, ¬ sampled n) → ¬ expires →
        t = { s with pulse := t.pulse, inputs := t.inputs, ring := { s.ring with gap := t.ring.gap } })

/-- A step with no command waiting takes up the oldest frame held in each direction, and the frames behind it move up
(R167; first the one at U and then the one at D, the model's choice, notes/assumptions/37.md). A cycle frame held at U
is judged against the last number taken when it is taken up: a duplicate leaves at D as it came; any other is taken, its
number and its advance are held, the wafer cycles of a head in use at its arrival run by the advance, and it leaves at D
valid, with its header (R170, R27). In pass-through address a held frame leaves as it came (R181).
A return held at D while none is held at U is matched by the last taken number at the moment of its arrival, whatever
was taken since: MATCHED is set and its readbacks are taken at age 0; unmatched, MATCHED is clear and no readback is
taken (R172, R175). With one held in each direction the readbacks of the return at D are taken after the ages advanced
for the frame at U, so that they stand at age 0, and the others one frame older (R175, R176). -/
def Obligations.HeldFramesAreTakenUp : Prop :=
  ∀ (x : HeldFrame) (rest : List HeldFrame) (s : State), s.pending = [] →
    let n : BitVec 16 := frameCycle x.frame
    let ahead (m : BitVec 16) : Nat := (n.toNat + 65536 - m.toNat) % 65536
    let taken (y : HeldFrame) (k : ReadbackId) : Option Readback :=
      (boundPayload s.ring (.readback k) (frameSlots y.frame)).map fun p =>
        ⟨le16 p 0, if k = .conditioner then le16 p 2 else 0, true, 0⟩
    let cycle (y : HeldFrame) : Prop := frameValid y.frame = true ∧ frameKind y.frame = 1
    (s.ring.heldU = x :: rest → ∃ t, step s = .next t ∧ t.ring.heldU = rest) ∧
    (s.ring.heldD = x :: rest → ∃ t, step s = .next t ∧ t.ring.heldD = rest) ∧
    (s.ring.heldU = x :: rest → passThrough s = true → ∃ t, step s = .next t ∧ t.ring.outD = some x.frame) ∧
    (s.ring.heldD = x :: rest → passThrough s = true → ∃ t, step s = .next t ∧ t.ring.outU = some x.frame) ∧
    (s.ring.heldU = x :: rest → passThrough s = false → cycle x →
      (s.ring.last = some n → ∃ t, step s = .next t ∧ t.ring.outD = some x.frame ∧ t.ring.last = s.ring.last ∧
        t.ring.advance = s.ring.advance) ∧
      (s.ring.last ≠ some n → ∃ t g, step s = .next t ∧ t.ring.last = some n ∧
        t.ring.advance = (match s.ring.last with
          | none => 1
          | some m => if ahead m ≤ 8 then ahead m else 1) ∧
        t.ring.outD = some g ∧ frameValid g = true ∧ g.length = x.frame.length ∧ g.take 8 = x.frame.take 8 ∧
        (s.ring.heldD = [] → ∀ k, storedReadback t k = if (slotFor s.ring (.readback k)).isSome = true
          then { storedReadback s k with age := min 255 ((storedReadback s k).age + 1) } else storedReadback s k) ∧
        ∀ h : Head, ownHeadSlot s h (frameSlots x.frame) = none →
          ((x.arrival.mode h).inUse = true →
            (t.head h).waferCycles = min (2 ^ 32 - 1) ((s.head h).waferCycles + t.ring.advance)) ∧
          ((x.arrival.mode h).inUse = false → (t.head h).waferCycles = (s.head h).waferCycles))) ∧
    (∀ y more, s.ring.heldU = x :: rest → s.ring.heldD = y :: more → passThrough s = false → cycle x → cycle y →
      s.ring.last ≠ some n → y.arrival.last = some (frameCycle y.frame) →
      ∃ t, step s = .next t ∧ ∀ k, storedReadback t k = match taken y k with
        | some r => r
        | none => if (slotFor s.ring (.readback k)).isSome = true
          then { storedReadback s k with age := min 255 ((storedReadback s k).age + 1) } else storedReadback s k) ∧
    (s.ring.heldU = [] → s.ring.heldD = x :: rest → passThrough s = false → cycle x →
      ∃ t g, step s = .next t ∧ t.ring.outU = some g ∧ frameValid g = true ∧ t.ring.last = s.ring.last ∧
        t.ring.advance = s.ring.advance ∧
        (x.arrival.last = some n → g.getD 1 0 = x.frame.getD 1 0 ||| 1#8 ∧
          ∀ k, storedReadback t k = (taken x k).getD (storedReadback s k)) ∧
        (x.arrival.last ≠ some n → g.getD 1 0 = x.frame.getD 1 0 &&& 0xFE#8 ∧ t.ring.store = s.ring.store))

/-! ### Reset -/

/-- Power-on reset from any state: the address latched from the straps, both heads IDLE with nothing defined,
the conditioner PARKED with every item of R69, the blend NONE with no claim, the channels stopped, the slot map empty,
the inputs UNSETTLED, no status, every source at the level and reaction of R148, level 0, an empty stack, the gap timer
unarmed, and every parameter at its power-on value (R32, R69, R108, R148, R181, R191, section 11.4). -/
def Obligations.PowerOnResetValues : Prop :=
  ∀ (straps : BitVec 6) (s : State), ∃ t, exec (.powerOnReset straps) s = .next t ∧
    t.address = straps ∧ t.pending = s.pending ∧
    (∀ h : Head, (t.head h).mode = .idle ∧ (∀ j : Fin 64, (t.head h).steps[j] = none) ∧
      (t.head h).stepCount = 0 ∧ (t.head h).current = none ∧ (t.head h).pendingStep = none ∧
      (t.head h).timer = 0 ∧ (t.head h).loopCounter = 0 ∧ (t.head h).causes = HoldCauses.none ∧
      (t.head h).ventLevel = 0 ∧ (t.head h).summary = none ∧ (t.head h).endCause = none ∧
      (t.head h).endpoint = false ∧ (t.head h).stepsExecuted = 0 ∧ (t.head h).cappedSteps = 0 ∧
      (t.head h).waferCycles = 0 ∧ (t.head h).condUnavailable = false ∧ (t.head h).dirCount = none ∧
      (t.head h).outcome = none ∧ (t.head h).dmax = 12000 ∧ (t.head h).padGain = 0 ∧ (t.head h).removalK = 0 ∧
      (∀ k : Fin 7, (t.head h).stepAcc[k] = 0 ∧ (t.head h).waferAcc[k] = 0 ∧
        ∀ j : Fin 7, ((t.head h).coupling[k])[j] = 0) ∧
      (∀ z : Zone, (t.head h).zoneConf[z] = ⟨0, 0, 0, 200, 300, 50, none⟩ ∧
        (t.head h).zones[z] = ⟨0, 200, 0, 0, false, false, 0, 0, false⟩)) ∧
    (∀ k : Fin 2, t.holdPoints[k] = ⟨false, .a, 0⟩) ∧
    t.cond.mode = .parked ∧ t.cond.program = none ∧ t.cond.segCount = 0 ∧ t.cond.demand = Parties.empty ∧
    t.cond.startReq = false ∧ t.cond.padRef = 0 ∧ t.cond.padAgeLimit = 60000 ∧ t.cond.seq = 0 ∧
    t.cond.pendingSample = none ∧ t.cond.stagedSample = none ∧ t.cond.lastCmd = none ∧
    t.cond.current = none ∧ t.cond.cont = .none ∧ t.cond.leg = none ∧ t.cond.dwell = 0 ∧ t.cond.traverse = 0 ∧
    t.cond.interval = 0 ∧ t.cond.timeoutMark = false ∧ t.cond.dirCount = none ∧ t.cond.outcome = none ∧
    (∀ k : Fin 32, t.cond.segments[k] = none ∧ t.cond.profile[k] = none) ∧
    t.slurry.blend = none ∧ t.slurry.owners = Parties.empty ∧ t.slurry.presence = 0 ∧
    t.slurry.waitA = none ∧ t.slurry.waitB = none ∧ t.slurry.undecA = none ∧ t.slurry.undecB = none ∧
    t.slurry.dirCount = none ∧ t.slurry.outcome = none ∧
    t.slurry.abrasiveRef = 100 ∧ (∀ k : Fin 16, t.slurry.blends[k] = none) ∧
    (∀ c : Channel, t.slurry.channels[c] = ⟨false, 0, 1000, true, 20, 200, false, 1, 10, true⟩ ∧
      t.slurry.flows[c] = ⟨0, [], 0, false, 0⟩ ∧ t.pulse.ch[c] = ⟨false, false, 0, 0, 0, 0, false⟩) ∧
    t.pulse.supply = false ∧ (∀ k : Fin 48, t.ring.slotMap[k] = none) ∧
    (∀ k : Fin 23, t.ring.store[k] = ⟨0, 0, false, 0⟩) ∧ t.ring.last = none ∧ t.ring.advance = 0 ∧
    t.ring.staleLimit = 20 ∧ t.ring.gapLimit = 5000 ∧ t.ring.gap = .unarmed ∧
    (∀ n : InputId, t.inputs[n].accepted = none ∧ t.inputs[n].history = [] ∧ t.inputs[n].rate = .us100) ∧
    (∀ i : SourceId, t.faults.sources[i].status = false ∧ t.faults.sources[i].enable = true) ∧
    (∀ i : SourceId, t.faults.sources[i].level =
      (#v[7, 7, 6, 5, 6, 6, 4, 4, 4, 4, 4, 4, 4, 4, 4, 3, 1, 1, 1, 1, 1, 1] : Vector Nat 22)[i]) ∧
    (∀ i : SourceId, t.faults.sources[i].reaction =
      if i.val = 2 then .retract else if i.val < 6 then .vent else if i.val < 16 then .hold else .notify) ∧
    t.faults.current = none ∧ t.faults.stack = []

/-- After power-on reset, with any straps and pins, every invariant of Sys2Proof/Safety.lean holds. -/
def Obligations.ResetMeetsEveryInvariant : Prop :=
  ∀ (straps : BitVec 6) (pins : Vector Bool 8),
    ArbiterInv (State.resetWith straps pins).faults ∧ SupplyInv (State.resetWith straps pins) ∧
    HeadsInv (State.resetWith straps pins) ∧ LevelSevenInv (State.resetWith straps pins) ∧
    RemovalInv (State.resetWith straps pins) ∧ SampleInv (State.resetWith straps pins).cond ∧
    DelayInv (State.resetWith straps pins) ∧ SlotMapInv (State.resetWith straps pins) ∧
    ∀ h : Head, ArmedInv (State.resetWith straps pins).slurry ((State.resetWith straps pins).head h)

/-! ### Invariants that every step keeps -/

/-- Every step keeps the fixed sources, the strictly rising stack below the response level, and nothing pending
above the level (R150, R152 to R154). -/
def Obligations.ArbiterKept : Prop :=
  ∀ s t : State, ArbiterInv s.faults → step s = .next t → ArbiterInv t.faults

/-- Every step keeps: NONE exactly with an empty owner set, the supply on only with a blend, and a channel
running exactly with its enable and the supply on, silent otherwise (R109, R128, R133, R135). -/
def Obligations.SupplyKept : Prop := ∀ s t : State, SupplyInv s → step s = .next t → SupplyInv t

/-- Every step keeps what the hold-cause sets, the pending steps, the summaries and the claims of both heads
are in each head state (R6, R15, R18, R20, R109, R111). -/
def Obligations.HeadsKept : Prop := ∀ s t : State, HeadsInv s → step s = .next t → HeadsInv t

/-- No head is RUNNING or HELD while the response level is 7, and no step changes that (R160). -/
def Obligations.LevelSevenKept : Prop :=
  ∀ s t : State, ArbiterInv s.faults → HeadsInv s → LevelSevenInv s → step s = .next t → LevelSevenInv t

/-- Every step keeps each removal accumulator from 0 to 2⁴⁸ − 1 and no step accumulator above its wafer
accumulator (R51). -/
def Obligations.RemovalKept : Prop := ∀ s t : State, RemovalInv s → step s = .next t → RemovalInv t

/-- Every step keeps: a staged sample exactly in REPORT_HOLD, behind a pending one, in PROTECT mode (R98); and exactly
D_c values in the delay line of each channel (R119, R120). -/
def Obligations.SamplesAndDelayLinesKept : Prop :=
  (∀ s t : State, SampleInv s.cond → step s = .next t → SampleInv t.cond) ∧
  ∀ s t : State, DelayInv s → step s = .next t → DelayInv t

/-- Every step keeps each binding, and each node address with its slot kind, in at most one entry of the slot
map, and none at the part's own address (R173). -/
def Obligations.SlotMapKept : Prop := ∀ s t : State, SlotMapInv s → step s = .next t → SlotMapInv t

/-- A recipe found valid by ARM goes on passing checks 1 to 8 of R4 while the head is armed, check 8 in the reading of
notes/assumptions/33.md: the tables and parameters are closed to it and a defined blend stays defined. The current and
the pending step stay below the step count (R1, R4, R24, R31, R105). The slot map, check 9, may change. Said with
HeadsInv, which HeadsKept says every step keeps: only a head RUNNING or HELD has a claim to decide. -/
def Obligations.ArmedKept : Prop :=
  ∀ (h : Head) (s t : State), HeadsInv s → ArmedInv s.slurry (s.head h) → step s = .next t →
    ArmedInv t.slurry (t.head h)

/-! ### Head directives -/

/-- START from READY, or from COMPLETE with the summary carried, with its interlocks satisfied, no response that
bars it, its zones bound and no hold point at step 0: TAKEN, a new wafer, and step 0 is in force (R8, R9, R19).
The claim waits for its decision, a RELEASE finds no claim of a head that was in no step, and nothing else changes. The
conditioning field acts at once: ON joins the demand set, with a start request in PARKED and LIFTING, and from PARKED
the start check follows, which starts the program or marks every head in the set; OFF leaves it, and the last member
lifts the arm (R71 to R73, R85). -/
def Obligations.StartBeginsAWafer : Prop :=
  ∀ (h : Head) (count : BitVec 4) (e : Bool) (st : StepEntry) (s : State), Ready s → HeadsInv s →
    ((s.head h).mode = .ready ∨
      ((s.head h).mode = .complete ∧ (s.head h).summary.map Summary.isCarried = some true)) →
    (∀ n ∈ startInterlocks h, acceptedLevel s n = some true) → barsStart s.faults h = false →
    (∀ z : Zone, (slotFor s.ring (.zoneCommand h z)).isSome = true) → holdPointHit s h 0 = false →
    (s.head h).step 0 = some st →
    ∃ t, exec (.start h count e) s = .next t ∧
      Begun 0 st
        { s.head h with
          waferAcc := Vector.replicate 7 0, stepsExecuted := 0, loopCounter := 0
          zones := Vector.ofFn fun z => { (s.head h).zones[z] with
            setpoint := (s.head h).zoneConf[z].release, range := false, diff := false, track := 0 } }
        (t.head h) ∧
      (t.head h).cappedSteps = 0 ∧ (t.head h).waferCycles = 0 ∧ (t.head h).summary = none ∧
      (t.head h).endCause = none ∧ (t.head h).dirCount = some count ∧ (t.head h).outcome = some .taken ∧
      (t.head h).endpoint = e ∧ SameSurroundings s t ∧ SameTables s t ∧ t.faults = s.faults ∧ t.due = [] ∧
      ((st.blend = .absent ∨ st.blend = .release) → t.slurry = s.slurry ∧ t.pulse = s.pulse) ∧
      t.slurry.owners.has (.head h) = false ∧
      (∀ n, st.blend = .index n → t.slurry = s.slurry.setUndecided h (some n) ∧ t.pulse = s.pulse) ∧
      SameButMark (t.head (otherHead h)) (s.head (otherHead h)) ∧
      Conditioned h st.conditioning .absent (fun k => if k = h then false else (s.head k).condUnavailable) s t

/-- START is refused in the order of R8: by the state, by the pending summary, by an interlock, by the response
in force, by the slot map. The outcome is recorded and nothing else changes.
A START taken with a hold point at step 0: the head is HELD with HOLD_POINT, step 0 is pending, no step is in
force, the targets are the release pressures, and the status of HOLD_POINT is set (R9, R16). Stated for a
HOLD_POINT source whose reaction is NOTIFY, as after power-on reset; other reactions follow by R161, as
ProvokedReactionsReachTheHead says. -/
def Obligations.StartRefusedOrDeferred : Prop :=
  (∀ (h : Head) (count : BitVec 4) (e : Bool) (s : State), Ready s →
      let refusedWith (o : DirOutcome) : Prop :=
        exec (.start h count e) s = .next (s.setHead h (recorded count e o (s.head h)))
      let admitted : Prop := (s.head h).mode = .ready ∨
        ((s.head h).mode = .complete ∧ (s.head h).summary.map Summary.isCarried = some true)
      ((s.head h).mode ≠ .ready → (s.head h).mode ≠ .complete → refusedWith .ignoredState) ∧
      ((s.head h).mode = .complete → (s.head h).summary.map Summary.isCarried = some false →
        refusedWith .summaryPending) ∧
      (admitted → (∃ n ∈ startInterlocks h, acceptedLevel s n ≠ some true) → refusedWith .refusedInterlock) ∧
      (admitted → (∀ n ∈ startInterlocks h, acceptedLevel s n = some true) → barsStart s.faults h = true →
        refusedWith .refusedFault) ∧
      (admitted → (∀ n ∈ startInterlocks h, acceptedLevel s n = some true) → barsStart s.faults h = false →
        (∃ z : Zone, slotFor s.ring (.zoneCommand h z) = none) → refusedWith .badArgument)) ∧
  ∀ (h : Head) (count : BitVec 4) (e : Bool) (s : State), Ready s → ArbiterInv s.faults →
    s.faults.sources[Src.holdPoint].reaction = .notify → startOutcome h s = .taken →
    holdPointHit s h 0 = true →
    ∃ t, exec (.start h count e) s = .next t ∧ (t.head h).mode = .held ∧ (t.head h).pendingStep = some 0 ∧
      (t.head h).current = none ∧ (t.head h).causes.holdPoint = true ∧ (t.head h).stepsExecuted = 0 ∧
      (∀ z : Zone, (t.head h).zones[z].target = (s.head h).zoneConf[z].release ∧
        (t.head h).zones[z].setpoint = (s.head h).zoneConf[z].release) ∧
      (t.head h).outcome = some .taken ∧ t.faults.sources[Src.holdPoint].status = true ∧
      SameSurroundings s t ∧ SameTables s t ∧ t.slurry = s.slurry ∧ t.pulse = s.pulse ∧ t.cond = s.cond ∧
      t.head (otherHead h) = s.head (otherHead h)

/-- HOLD: from RUNNING or HELD the head is HELD with DIRECTIVE in its cause set, TAKEN; from every other state
IGNORED_STATE. Nothing else changes (R10). -/
def Obligations.HoldDirective : Prop :=
  ∀ (h : Head) (count : BitVec 4) (e : Bool) (s : State), Ready s →
    (((s.head h).mode = .running ∨ (s.head h).mode = .held) →
      exec (.hold h count e) s = .next (s.setHead h (recorded count e .taken
        { s.head h with mode := .held, causes := { (s.head h).causes with directive := true } }))) ∧
    (((s.head h).mode ≠ .running ∧ (s.head h).mode ≠ .held) →
      exec (.hold h count e) s = .next (s.setHead h (recorded count e .ignoredState (s.head h))))

/-- RESUME: IGNORED_STATE outside HELD; REFUSED_FAULT while the response level is not below the level recorded
with FAULT; else TAKEN, with DIRECTIVE, HOLD_POINT and FAULT removed, the head RUNNING when BLEND_WAIT is not in
the set, and a deferred step begun without the comparators, its blend and conditioning fields handed to the blocks (R11,
R15, R19). -/
def Obligations.ResumeDirective : Prop :=
  ∀ (h : Head) (count : BitVec 4) (e : Bool) (s : State), Ready s →
    ((s.head h).mode ≠ .held →
      exec (.resume h count e) s = .next (s.setHead h (recorded count e .ignoredState (s.head h)))) ∧
    (∀ l, (s.head h).mode = .held → (s.head h).causes.fault = some l → l ≤ s.faults.level →
      exec (.resume h count e) s = .next (s.setHead h (recorded count e .refusedFault (s.head h)))) ∧
    ((s.head h).mode = .held → (∀ l ∈ (s.head h).causes.fault, s.faults.level < l) →
      ((s.head h).causes.blendWait = true →
        exec (.resume h count e) s = .next (s.setHead h (recorded count e .taken
          { s.head h with causes := ⟨false, false, none, true⟩ }))) ∧
      ((s.head h).causes.blendWait = false → (s.head h).pendingStep = none →
        exec (.resume h count e) s = .next (s.setHead h (recorded count e .taken
          { s.head h with mode := .running, causes := HoldCauses.none }))) ∧
      (∀ j st, (s.head h).causes.blendWait = false → (s.head h).pendingStep = some j →
        (s.head h).step j = some st →
        ∃ t, exec (.resume h count e) s = .next t ∧ Begun j st (s.head h) (t.head h) ∧
          (t.head h).causes = HoldCauses.none ∧ (t.head h).outcome = some .taken ∧
          (t.head h).dirCount = some count ∧ SameSurroundings s t ∧ SameTables s t ∧ t.faults = s.faults ∧
          BlendHanded h st.blend s t ∧ Conditioned h st.conditioning st.blend (marks h (s.head h) s) s t))

/-- STOP: from RUNNING or HELD the head enters RAMPDOWN with end cause STOP and leaves the owner and demand
sets, TAKEN; from every other state IGNORED_STATE and nothing else changes.
VENT: IGNORED_STATE from IDLE; TAKEN from every other state, to VENTED with vent level 0, or with the level it
has when already VENTED; a head that was RUNNING or HELD leaves the owner and demand sets (R12, R13, R18, R25). -/
def Obligations.StopAndVentDirectives : Prop :=
  (∀ (h : Head) (count : BitVec 4) (e : Bool) (s : State), Ready s →
      ((s.head h).mode.inStep = true →
        ∃ t, exec (.stop h count e) s = .next t ∧ RampingDown .stop (s.head h) (t.head h) ∧ Withdrawn h t ∧
          (t.head h).outcome = some .taken ∧ (t.head h).dirCount = some count ∧ (t.head h).endpoint = e ∧
          (t.head h).stepAcc = (s.head h).stepAcc ∧ (t.head h).waferAcc = (s.head h).waferAcc ∧
          SameSurroundings s t ∧ SameTables s t ∧ t.faults = s.faults ∧
          (s.slurry.owners.has (.head h) = false → t.slurry = (s.slurry.setWait h none).setUndecided h none ∧
            t.pulse = s.pulse ∧ t.head (otherHead h) = s.head (otherHead h))) ∧
      ((s.head h).mode.inStep = false →
        exec (.stop h count e) s = .next (s.setHead h (recorded count e .ignoredState (s.head h))))) ∧
  ∀ (h : Head) (count : BitVec 4) (e : Bool) (s : State), Ready s →
    ((s.head h).mode = .idle →
      exec (.vent h count e) s = .next (s.setHead h (recorded count e .ignoredState (s.head h)))) ∧
    ((s.head h).mode = .vented →
      exec (.vent h count e) s = .next (s.setHead h (recorded count e .taken (s.head h)))) ∧
    (((s.head h).mode = .ready ∨ (s.head h).mode = .rampdown ∨ (s.head h).mode = .complete) →
      exec (.vent h count e) s = .next (s.setHead h (recorded count e .taken
        { s.head h with mode := .vented, ventLevel := 0 }))) ∧
    ((s.head h).mode.inStep = true →
      ∃ t, exec (.vent h count e) s = .next t ∧ (t.head h).mode = .vented ∧ (t.head h).ventLevel = 0 ∧
        (t.head h).causes = HoldCauses.none ∧ (t.head h).pendingStep = none ∧ (t.head h).loopCounter = 0 ∧
        (t.head h).zones = (s.head h).zones ∧ (t.head h).summary = (s.head h).summary ∧
        (t.head h).current = (s.head h).current ∧ (t.head h).timer = (s.head h).timer ∧
        (t.head h).outcome = some .taken ∧ Withdrawn h t ∧ SameSurroundings s t ∧ SameTables s t ∧
        t.faults = s.faults)

/-- RECOVER: from VENTED the head enters READY with vent level 0, TAKEN, when its vent level is above 0 and the
response level is below it, or its vent level is 0 and no VENT that concerns it is in force or recorded; else
REFUSED_FAULT. From every other state IGNORED_STATE. Nothing else changes (R14). -/
def Obligations.RecoverDirective : Prop :=
  ∀ (h : Head) (count : BitVec 4) (e : Bool) (s : State), Ready s →
    let concernsVent (r : Response) : Prop :=
      r.reaction = .vent ∧ (scopeHead r.source = none ∨ scopeHead r.source = some h)
    let admitted : Prop := (0 < (s.head h).ventLevel ∧ s.faults.level < (s.head h).ventLevel) ∨
      ((s.head h).ventLevel = 0 ∧ ∀ r ∈ s.faults.current.toList ++ s.faults.stack, ¬ concernsVent r)
    ((s.head h).mode = .vented → admitted →
      exec (.recover h count e) s = .next (s.setHead h (recorded count e .taken
        { s.head h with mode := .ready, ventLevel := 0 }))) ∧
    ((s.head h).mode = .vented → ¬ admitted →
      exec (.recover h count e) s = .next (s.setHead h (recorded count e .refusedFault (s.head h)))) ∧
    ((s.head h).mode ≠ .vented →
      exec (.recover h count e) s = .next (s.setHead h (recorded count e .ignoredState (s.head h))))

/-! ### Step exits -/

/-- A TIME step whose timer reaches its duration with this advance ends by a normal exit: the loop target with the
counter one higher while repeats are left; the next step with its claim undecided and its conditioning field handed
over, from a used-up loop with the counter at 0; RAMPDOWN with end cause NORMAL after the last step; or a deferral by a
hold point (R16, R22, R24). No status but that of HOLD_POINT is touched.
A step of another kind whose timer reaches its duration with this advance, with neither its endpoint nor its
removal condition met: the status of STEP_CAP is set and the capped-step count goes up; ABORT enters RAMPDOWN with
end cause CAP whatever its loop, CONTINUE goes on as a normal exit, loop and last step included (R22 to R24).
Stated for a STEP_CAP source whose reaction is NOTIFY, as after power-on reset; ProvokedReactionsReachTheHead says the
other reactions (R161). -/
def Obligations.StepExitRows : Prop :=
  (∀ (h : Head) (j : Nat) (st : StepEntry) (s : State), Ready s → (s.head h).mode = .running →
    (s.head h).current = some j → (s.head h).step j = some st → st.exitKind = .time →
    st.duration ≤ (s.head h).timer + s.ring.advance →
    ∃ t, exec (.stepTimeExit h) s = .next t ∧
      NormalExit h j st { s.head h with timer := (s.head h).timer + s.ring.advance } s t ∧
      SameSurroundings s t ∧ SameTables s t ∧ t.due = [] ∧
      ((∀ k, holdPointHit s h k = false) → t.faults = s.faults) ∧
      ∀ i : SourceId, i ≠ Src.holdPoint → t.faults.sources[i] = s.faults.sources[i]) ∧
  ∀ (h : Head) (j : Nat) (st : StepEntry) (s : State), Ready s → ArbiterInv s.faults →
    s.faults.sources[Src.stepCap h].reaction = .notify → (s.head h).mode = .running →
    (s.head h).current = some j → (s.head h).step j = some st → st.exitKind ≠ .time →
    st.duration ≤ (s.head h).timer + s.ring.advance →
    (st.exitKind = .removal ∨ (s.head h).endpoint = false) →
    (st.exitKind = .endpoint ∨ ∀ z n, st.refZone = some z → st.removalTarget = some n →
      (s.head h).stepAcc[z] < n * 65536) →
    (st.capAction = .abort →
      ∃ t, exec (.stepCap h) s = .next t ∧ t.faults.sources[Src.stepCap h].status = true ∧
        (t.head h).cappedSteps = min 65535 ((s.head h).cappedSteps + 1) ∧
        RampingDown .cap { s.head h with timer := (s.head h).timer + s.ring.advance } (t.head h) ∧
        Withdrawn h t ∧ SameSurroundings s t ∧ SameTables s t) ∧
    (st.capAction = .continue →
      ∃ t, exec (.stepCap h) s = .next t ∧ t.faults.sources[Src.stepCap h].status = true ∧
        (t.head h).cappedSteps = min 65535 ((s.head h).cappedSteps + 1) ∧
        NormalExit h j st { s.head h with
          timer := (s.head h).timer + s.ring.advance
          cappedSteps := min 65535 ((s.head h).cappedSteps + 1) } s t ∧
        SameSurroundings s t ∧ SameTables s t)

/-- The exit evaluation of a head RUNNING at the frame's arrival and still RUNNING, in a step not entered on the frame,
with the reactions that it provokes delivered (R161): the timer advances by the cycle advance, and the first condition
of R22 that holds ends the step: the endpoint flag, the removal of the reference zone, TIME, all three as a normal exit,
or CAP. When none holds only the timer has moved. With one of the three conditions of R21 missing nothing changes. CAP
is said for a STEP_CAP source whose reaction is NOTIFY.
A taken frame without a directive slot for a head makes this evaluation: said of one that changes no status and no
response, the timer of a step that goes on advances by the frame's advance and the step stays in force; a removal that
is reached ends it, into a step of the armed recipe, a ramp-down or a deferral. The timer of a head that was not RUNNING
does not advance (R7, R21 to R24, R63, R64). The frame is said with HeadsInv: only a HELD head has a pending step, which
a claim granted on the frame would enter. -/
def Obligations.FrameExitEvaluation : Prop :=
  ∀ (h : Head) (j : Nat) (st : StepEntry) (s : State), s.due = [] → (s.head h).current = some j →
    (s.head h).step j = some st →
    let moved : HeadUnit := { s.head h with timer := (s.head h).timer + s.ring.advance }
    let flagged : Prop := (st.exitKind = .endpoint ∨ st.exitKind = .removalOrEndpoint) ∧ (s.head h).endpoint = true
    let removed : Prop := (st.exitKind = .removal ∨ st.exitKind = .removalOrEndpoint) ∧
      ∃ z ∈ st.refZone, ∃ n ∈ st.removalTarget, n * 65536 ≤ (s.head h).stepAcc[z]
    let evaluated : Prop := (s.head h).mode = .running ∧ (s.head h).fresh = false
    let t := deliverDue h (evaluateExit true h s)
    evaluateExit false h s = s ∧ (¬ evaluated → t = s) ∧
    (evaluated →
      ((flagged ∨ removed) → NormalExit h j st moved s t ∧ (t.head h).cappedSteps = (s.head h).cappedSteps) ∧
      (¬ flagged → ¬ removed → moved.timer < st.duration → t = s.setHead h moved) ∧
      (¬ flagged → ¬ removed → st.duration ≤ moved.timer → st.exitKind = .time → NormalExit h j st moved s t) ∧
      (¬ flagged → ¬ removed → st.duration ≤ moved.timer → st.exitKind ≠ .time → ArbiterInv s.faults →
        s.faults.sources[Src.stepCap h].reaction = .notify →
        t.faults.sources[Src.stepCap h].status = true ∧
        (t.head h).cappedSteps = min 65535 ((s.head h).cappedSteps + 1) ∧
        (st.capAction = .abort → RampingDown .cap moved (t.head h) ∧ Withdrawn h t) ∧
        (st.capAction = .continue →
          NormalExit h j st { moved with cappedSteps := min 65535 ((s.head h).cappedSteps + 1) } s t))) ∧
    ∀ f : List Byte, Ready s → HeadsInv s → s.ring.heldU = [] → frameValid f = true → frameKind f = 1 →
      s.ring.last ≠ some (frameCycle f) → ownHeadSlot s h (frameSlots f) = none →
      ∃ u, exec (.outboundCycleFrame f) s = .next u ∧ (u.head h).endpoint = false ∧
        ((s.head h).mode ≠ .running → (u.head h).timer = (s.head h).timer ∨ (u.head h).timer = 0) ∧
        (u.faults = s.faults → (s.head h).mode = .running → ¬ removed →
          (s.head h).timer + u.ring.advance < st.duration →
          (u.head h).timer = (s.head h).timer + u.ring.advance ∧ (u.head h).current = some j ∧
            (u.head h).stepsExecuted = (s.head h).stepsExecuted ∧ (u.head h).stepAcc = (s.head h).stepAcc) ∧
        (u.faults = s.faults → ArmedInv s.slurry (s.head h) → (s.head h).mode = .running → removed →
          (u.head h).endCause = some .normal ∨
          ((u.head h).timer = 0 ∧ (u.head h).stepsExecuted = min 65535 ((s.head h).stepsExecuted + 1)) ∨
          ((u.head h).mode = .held ∧ (u.head h).causes.holdPoint = true ∧ (u.head h).pendingStep.isSome = true))

/-! ### Zone pressures and removal -/

/-- One pass of the pipeline, stage by stage, in RUNNING, HELD and RAMPDOWN: the ramp of all eight setpoints; the pad
deviation, the mean over the eligible profile entries truncated toward zero, and the pad term from it; the coupling sum
over the other membrane zones, divided by 4096 and rounded to nearest, ties away from zero; the range clamp; the
forward and the backward pass of the differential clamp; the sticky flags where a clamp changed a value. In RAMPDOWN
the pad term and the coupling are off and the deviations stay (R36, R38, R40 to R45, R47).
While a head is RUNNING or HELD with a zone configuration that ARM accepts, the pass gives every zone a command within
its [Lmin, Lmax], with adjacent membrane zones at most Dmax apart; only the zones change (R43 to R45). -/
def Obligations.CommandsFollowThePipeline : Prop :=
  ∀ (u : HeadUnit) (c : Conditioner) (a : Nat),
    let v := u.compute c a
    let s (z : Zone) : Nat :=
      if distance u.zones[z].setpoint u.zones[z].target ≤ u.zones[z].rate * a then u.zones[z].target
      else if u.zones[z].setpoint < u.zones[z].target then u.zones[z].setpoint + u.zones[z].rate * a
      else u.zones[z].setpoint - u.zones[z].rate * a
    let eligible (first last : Nat) (k : Fin 32) : Option Int := match c.profile[k] with
      | some e =>
        if first ≤ k.val ∧ k.val ≤ last ∧ e.age ≤ c.padAgeLimit then some ((c.padRef : Int) - e.height) else none
      | none => none
    let devs (z : Zone) : List Int := match u.zoneConf[z].padRange with
      | none => []
      | some (first, last) => (List.finRange 32).filterMap (eligible first last)
    let d (z : Zone) : Int := (devs z).sum.tdiv (devs z).length
    let p (z : Zone) : Int := if u.mode = .rampdown ∨ z = 7 then s z
      else max 0 (min 12000 (s z + max (-2000) (min 2000 ((u.padGain * d z).tdiv 16))))
    let sum (k : Fin 7) : Int :=
      ((List.finRange 7).map fun j => if j = k then 0 else (u.coupling[k])[j] * p j.castSucc).sum
    let w (z : Zone) : Int := if g : z.val < 7 ∧ u.mode ≠ .rampdown then
        p z - (sum ⟨z.val, g.1⟩).sign * (((sum ⟨z.val, g.1⟩).natAbs + 2048) / 4096 : Nat)
      else p z
    let lo (z : Zone) : Int := if u.mode = .rampdown then 0 else u.zoneConf[z].lmin
    let r (z : Zone) : Int :=
      if w z < lo z then lo z else if u.zoneConf[z].lmax < w z then u.zoneConf[z].lmax else w z
    (u.mode.inUse = true →
      (∀ z : Zone, (v.zones[z]).setpoint = s z ∧ (v.zones[z]).target = u.zones[z].target ∧
        (v.zones[z]).rate = u.zones[z].rate ∧ (v.zones[z]).track = u.zones[z].track ∧
        (v.zones[z]).range = (u.zones[z].range || decide (r z ≠ w z))) ∧
      ((v.zones[7]).command : Int) = r 7 ∧ (v.zones[7]).diff = u.zones[7].diff ∧
      (∃ f b : Fin 7 → Int, f 0 = r 0 ∧ b 6 = f 6 ∧
        (∀ k : Fin 6, f k.succ = min (r k.succ.castSucc) (f k.castSucc + u.dmax)) ∧
        (∀ k : Fin 6, b k.castSucc = min (f k.castSucc) (b k.succ + u.dmax)) ∧
        ∀ k : Fin 7, ((v.zones[k.val]).command : Int) = b k ∧
          (v.zones[k.val]).diff = (u.zones[k.val].diff || decide (b k < r k.castSucc))) ∧
      ∀ z : Zone,
        (z.val < 7 → u.mode ≠ .rampdown → (v.zones[z]).dev = d z ∧
          ((v.zones[z]).stale = true ↔ u.zoneConf[z].padRange ≠ none ∧ devs z = [])) ∧
        ((z = 7 ∨ u.mode = .rampdown) →
          (v.zones[z]).dev = u.zones[z].dev ∧ (v.zones[z]).stale = u.zones[z].stale)) ∧
    (u.mode.inStep = true → zoneConfigOk u = true →
      (∀ z : Zone, u.zoneConf[z].lmin ≤ (v.zones[z]).command ∧ (v.zones[z]).command ≤ u.zoneConf[z].lmax) ∧
      (∀ k : Fin 6, distance (v.zones[k.val]).command (v.zones[k.val + 1]).command ≤ u.dmax) ∧
      v = { u with zones := v.zones })

/-- The commands of the states without a pipeline are the release pressures, and 0 pu in VENTED. In RAMPDOWN the head
enters COMPLETE on exactly the pass whose ramp leaves every setpoint at its release pressure, with a summary of
which no part is carried, built from the head (R26, R27, R37 to R39). The summary holds the flags as that pass
leaves them, the model's choice (notes/assumptions/15.md). -/
def Obligations.FixedCommandsAndCompletion : Prop :=
  ∀ (u : HeadUnit) (c : Conditioner) (a : Nat),
    (u.mode.inUse = false → ∀ z : Zone, (u.compute c a).zones[z] =
      { u.zones[z] with command := if u.mode = .vented then 0 else u.zoneConf[z].release }) ∧
    (u.mode = .rampdown →
      let next (z : Zone) : Nat :=
        if distance u.zones[z].setpoint u.zones[z].target ≤ u.zones[z].rate * a then u.zones[z].target
        else if u.zones[z].setpoint < u.zones[z].target then u.zones[z].setpoint + u.zones[z].rate * a
        else u.zones[z].setpoint - u.zones[z].rate * a
      (∀ z : Zone, ((u.compute c a).zones[z]).setpoint = next z) ∧
      ((u.compute c a).mode = .complete ↔ ∀ z : Zone, next z = u.zoneConf[z].release) ∧
      ((u.compute c a).mode = .complete →
        ∃ x, (u.compute c a).summary = some x ∧ x.endCause = u.endCause ∧ x.stepsExecuted = u.stepsExecuted ∧
          x.waferCycles = u.waferCycles ∧ x.cappedSteps = u.cappedSteps ∧ x.condUnavailable = u.condUnavailable ∧
          x.ringRange = ((u.compute c a).zones[7]).range ∧ (∀ p : Fin 8, x.carried[p] = false) ∧
          ∀ k : Fin 7, x.removal[k] = u.waferAcc[k] / 65536 ∧
            x.range[k] = ((u.compute c a).zones[k.val]).range ∧ x.diff[k] = ((u.compute c a).zones[k.val]).diff))

/-- TRACK_PERSISTENCE: a zone out of its track band whose counter reaches its persistence with this advance: the counter
is at the persistence, the status of TRACK is set, and no command, setpoint or flag of any zone changes.
A matched return makes the track check of each head RUNNING or HELD at its arrival: a readback out of band advances the
zone's counter by the advance, up to the persistence; one within the band makes it 0; an absent one keeps it. The status
of TRACK is set exactly when a zone out of band is then at its persistence. For a head in another state every counter
stays (R49, R50). -/
def Obligations.TrackCheckCountsAndSets : Prop :=
  (∀ (h : Head) (z : Zone) (readback : BitVec 16) (s : State), Ready s → (s.head h).mode.inStep = true →
      (s.head h).zoneConf[z].trackBand < distance readback.toNat (s.head h).zones[z].command →
      (s.head h).zoneConf[z].trackPersist ≤ (s.head h).zones[z].track + s.ring.advance →
      ∃ t, exec (.trackPersistence h z readback) s = .next t ∧ t.faults.sources[Src.track h].status = true ∧
        ((t.head h).zones[z]).track = (s.head h).zoneConf[z].trackPersist ∧
        (∀ y : Zone, ((t.head h).zones[y]).command = (s.head h).zones[y].command ∧
          ((t.head h).zones[y]).setpoint = (s.head h).zones[y].setpoint ∧
          ((t.head h).zones[y]).range = (s.head h).zones[y].range ∧
          ((t.head h).zones[y]).diff = (s.head h).zones[y].diff ∧
          ((t.head h).zones[y]).dev = (s.head h).zones[y].dev ∧
          ((t.head h).zones[y]).stale = (s.head h).zones[y].stale ∧
          (y ≠ z → ((t.head h).zones[y]).track = (s.head h).zones[y].track)) ∧
        SameSurroundings s t ∧ SameTables s t) ∧
  ∀ (h : Head) (f : List Byte) (s : State), passThrough s = false → s.ring.heldD = [] → frameValid f = true →
    frameKind f = 1 → s.ring.last = some (frameCycle f) →
    let back (z : Zone) : Option Nat :=
      (boundPayload s.ring (.readback (.zone h z)) (frameSlots f)).map fun p => le16 p 0
    let out (z : Zone) (v : Nat) : Prop := (s.head h).zoneConf[z].trackBand < distance v (s.head h).zones[z].command
    let raised : Prop := (s.head h).mode.inStep = true ∧ ∃ z : Zone, ∃ v ∈ back z, out z v ∧
      (s.head h).zoneConf[z].trackPersist ≤ (s.head h).zones[z].track + s.ring.advance
    ∃ t, exec (.returnCycleFrame f) s = .next t ∧
      (∀ z : Zone,
        (((s.head h).mode.inStep = false ∨ back z = none) →
          ((t.head h).zones[z]).track = (s.head h).zones[z].track) ∧
        ∀ v, back z = some v → (s.head h).mode.inStep = true →
          (out z v → ((t.head h).zones[z]).track =
            min (s.head h).zoneConf[z].trackPersist ((s.head h).zones[z].track + s.ring.advance)) ∧
          (¬ out z v → ((t.head h).zones[z]).track = 0)) ∧
      (raised → t.faults.sources[Src.track h].status = true) ∧
      (¬ raised → t.faults.sources[Src.track h] = s.faults.sources[Src.track h])

/-- On a matched return, a the advance of the matched frame, the two accumulators of each membrane zone each take the
zone's increment, or stop at 2⁴⁸ − 1; REMOVAL_SATURATED is set by a nonzero increment that leaves one there, and
else nothing but the accumulators changes (R56 to R60).
A matched return adds so for each head RUNNING, HELD or RAMPDOWN at its arrival, with the pressures and the velocity
that the frame carries and the presence factor and advance as they stand; a zone whose pressure is absent, and a head
whose velocity is absent, gets nothing. A head in another state, and an unmatched return, keep every accumulator (R54 to
R58). The step accumulators are said of a head with no deferred step, whose entry would clear them. -/
def Obligations.RemovalAdds : Prop :=
  (∀ (a : Nat) (h : Head) (p : Zone → Option Nat) (v : Option Nat) (s : State), ArbiterInv s.faults →
      let inc (k : Fin 7) : Nat :=
        match p ⟨k.val, by omega⟩, v with
        | some e, some w =>
          (min 12000 e * min 4000 w) * s.slurry.presence * (s.head h).removalK * a / 2 ^ 32
        | _, _ => 0
      let t := accumulate a h p v s
      (∀ k : Fin 7, (t.head h).stepAcc[k] = min (2 ^ 48 - 1) ((s.head h).stepAcc[k] + inc k) ∧
        (t.head h).waferAcc[k] = min (2 ^ 48 - 1) ((s.head h).waferAcc[k] + inc k)) ∧
      ((∃ k : Fin 7, 0 < inc k ∧ (2 ^ 48 - 1 ≤ (s.head h).stepAcc[k] + inc k ∨
          2 ^ 48 - 1 ≤ (s.head h).waferAcc[k] + inc k)) →
        t.faults.sources[Src.removalSaturated h].status = true) ∧
      ((∀ k : Fin 7, inc k = 0 ∨ ((s.head h).stepAcc[k] + inc k < 2 ^ 48 - 1 ∧
          (s.head h).waferAcc[k] + inc k < 2 ^ 48 - 1)) → OnlyHead h s t)) ∧
  ∀ (h : Head) (f : List Byte) (s : State), passThrough s = false → s.ring.heldD = [] → frameValid f = true →
    frameKind f = 1 →
    let back (k : ReadbackId) : Option Nat :=
      (boundPayload s.ring (.readback k) (frameSlots f)).map fun p => le16 p 0
    let inc (k : Fin 7) : Nat := match back (.zone h k.castSucc), back (.velocity h) with
      | some e, some v =>
        (min 12000 e * min 4000 v) * s.slurry.presence * (s.head h).removalK * s.ring.advance / 2 ^ 32
      | _, _ => 0
    ∃ t, exec (.returnCycleFrame f) s = .next t ∧
      (s.ring.last = some (frameCycle f) → (s.head h).mode.inUse = true → ∀ k : Fin 7,
        (t.head h).waferAcc[k] = min (2 ^ 48 - 1) ((s.head h).waferAcc[k] + inc k) ∧
        ((s.head h).pendingStep = none →
          (t.head h).stepAcc[k] = min (2 ^ 48 - 1) ((s.head h).stepAcc[k] + inc k))) ∧
      (s.ring.last = some (frameCycle f) → (s.head h).mode.inUse = true →
        (∃ k : Fin 7, 0 < inc k ∧ 2 ^ 48 - 1 ≤ (s.head h).waferAcc[k] + inc k) →
        t.faults.sources[Src.removalSaturated h].status = true) ∧
      ((s.ring.last ≠ some (frameCycle f) ∨ (s.head h).mode.inUse = false) →
        (t.head h).waferAcc = (s.head h).waferAcc ∧
        ((s.head h).pendingStep = none → (t.head h).stepAcc = (s.head h).stepAcc))

/-! ### The conditioner -/

/-- START_SWEEP in the order of R88: REFUSED_FAULT under a platen RETRACT or VENT; IGNORED_STATE in REPORT_HOLD
and, outside SINGLE_RESTART mode, in the middle of a program; a restart in SINGLE_RESTART mode; a start request in
LIFTING; from PARKED a start of the program, BAD_ARGUMENT or REFUSED_INTERLOCK by the part of the start check that
fails, with the marks of R73 on the heads in the demand set. When both parts fail the answer is BAD_ARGUMENT, the
model's choice (notes/assumptions/21.md). Away from PARKED the program is defined, as in every state a run reaches. -/
def Obligations.StartSweepDirective : Prop :=
  ∀ (count : BitVec 4) (p : Program) (s : State), passThrough s = false →
    let joined : Parties := { s.cond.demand with tc := true }
    let toStart : Conditioner := { s.cond with
      demand := joined, mode := .traverse, fresh := true, current := some p.startSeg, traverse := 0
      timeoutMark := false, cont := .none, leg := none }
    let answers (o : DirOutcome) (c : Conditioner) : Prop :=
      exec (.startSweep count) s = .next (s.setCond (recordedCond count o c))
    let turnedAway (o : DirOutcome) : Prop :=
      ∃ t, exec (.startSweep count) s = .next t ∧ t.cond = recordedCond count o s.cond ∧
        t = ((s.setHead .a t.headA).setHead .b t.headB).setCond t.cond ∧
        ∀ h : Head, t.head h = { s.head h with
          condUnavailable := (s.head h).condUnavailable || s.cond.demand.has (.head h) }
    (barsSweep s.faults = true → answers .refusedFault s.cond) ∧
    (barsSweep s.faults = false → s.cond.mode = .reportHold → answers .ignoredState s.cond) ∧
    (barsSweep s.faults = false → s.cond.program = some p →
      (s.cond.mode = .traverse ∨ s.cond.mode = .sweeping ∨ s.cond.mode = .stepWait) →
      (p.mode = .singleRestart → answers .taken toStart) ∧
      (p.mode ≠ .singleRestart → answers .ignoredState s.cond)) ∧
    (barsSweep s.faults = false → s.cond.mode = .lifting →
      answers .taken { s.cond with demand := joined, startReq := true }) ∧
    (barsSweep s.faults = false → s.cond.mode = .parked → s.cond.program = some p →
      (s.cond.segmentsOk p = true → satisfied s Di.padPresent = true → satisfied s Di.diskPresent = true →
        answers .taken { toStart with dwell := 0, interval := 0, startReq := false }) ∧
      (s.cond.segmentsOk p = true → (satisfied s Di.padPresent = false ∨ satisfied s Di.diskPresent = false) →
        turnedAway .refusedInterlock) ∧
      (s.cond.segmentsOk p = false → turnedAway .badArgument)) ∧
    (barsSweep s.faults = false → s.cond.mode = .parked → s.cond.program = none → turnedAway .badArgument)

/-- STOP_SWEEP: a member tool controller leaves the demand set, TAKEN, and an emptied set lifts the arm from away
of PARKED, discarding a staged sample and keeping the counts; a tool controller that is no member is answered
IGNORED_STATE (R85, R89).
The directive STEP with DIRECTIVE in the trigger set, and the interval counter reaching the program's
interval with INTERVAL in it, move the conditioner from STEP_WAIT to TRAVERSE toward the recorded next segment; a
STEP in any other state, or without DIRECTIVE in the set, is answered IGNORED_STATE and changes nothing else (R84,
R90).
The traverse timer reaching its limit with the mark clear: the timer holds at the limit, the mark is set, the
status of COND_TRAVERSE_TIMEOUT is set, and, for a reaction of NOTIFY or HOLD, the conditioner stays in TRAVERSE
toward the same segment (R79, R86). -/
def Obligations.ConditionerDirectivesAndTimers : Prop :=
  (∀ (count : BitVec 4) (s : State), passThrough s = false →
    (s.cond.demand.tc = false →
      exec (.stopSweep count) s = .next (s.setCond (recordedCond count .ignoredState s.cond))) ∧
    (s.cond.demand.tc = true → (s.cond.demand.a = true ∨ s.cond.demand.b = true) →
      exec (.stopSweep count) s = .next (s.setCond (recordedCond count .taken
        { s.cond with demand := { s.cond.demand with tc := false } }))) ∧
    (s.cond.demand = ⟨false, false, true⟩ →
      (s.cond.mode ≠ .parked → s.cond.mode ≠ .lifting →
        exec (.stopSweep count) s = .next (s.setCond (recordedCond count .taken
          { s.cond with
            demand := Parties.empty, startReq := false, mode := .lifting, fresh := true, cont := .none
            leg := none, stagedSample := none }))) ∧
      ((s.cond.mode = .parked ∨ s.cond.mode = .lifting) →
        exec (.stopSweep count) s = .next (s.setCond (recordedCond count .taken
          { s.cond with demand := Parties.empty, startReq := false }))))) ∧
  (∀ (count : BitVec 4) (p : Program) (k : Nat) (s : State), passThrough s = false → s.cond.program = some p →
    let movedOn (c : Conditioner) : Conditioner := { c with
      mode := .traverse, fresh := true, current := some k, traverse := 0, timeoutMark := false
      cont := .none, leg := none }
    (s.cond.mode = .stepWait → s.cond.cont = .stepWait k → p.trigDirective = true →
      exec (.step count) s = .next (s.setCond (recordedCond count .taken (movedOn s.cond)))) ∧
    ((s.cond.mode ≠ .stepWait ∨ p.trigDirective = false) →
      exec (.step count) s = .next (s.setCond (recordedCond count .ignoredState s.cond))) ∧
    (s.cond.mode = .stepWait → s.cond.cont = .stepWait k → p.trigInterval = true →
      p.interval ≤ min 65535 (s.cond.interval + s.ring.advance) →
      exec .intervalTrigger s = .next (s.setCond (movedOn
        { s.cond with interval := min 65535 (s.cond.interval + s.ring.advance) })))) ∧
  ∀ (p : Program) (s : State), Ready s → ArbiterInv s.faults → s.cond.program = some p →
    s.cond.mode = .traverse → s.cond.timeoutMark = false →
    p.traverseLimit ≤ s.cond.traverse + s.ring.advance →
    ((s.faults.sources[Src.condTraverseTimeout]).reaction = .notify ∨
      (s.faults.sources[Src.condTraverseTimeout]).reaction = .hold) →
    ∃ t, exec .condTraverseTimeout s = .next t ∧
      t.cond = { s.cond with traverse := p.traverseLimit, timeoutMark := true } ∧
      (t.faults.sources[Src.condTraverseTimeout]).status = true ∧
      SameSurroundings s t ∧ SameTables s t ∧ t.slurry = s.slurry ∧ t.pulse = s.pulse

/-- The dwell of the current segment ends with this advance. With a gauge height taken: the sequence number goes
up by one, the segment's profile entry takes the height at age 0, and the sample becomes pending, or, behind a
pending one in PROTECT mode, is staged in REPORT_HOLD. With none taken there is no sample. The continuation is chosen
by the table of R81: before the end segment the next one, after the last of the table segment 0; from the end segment
the start segment again, or the lift in SINGLE and SINGLE_RESTART mode; by way of STEP_WAIT in STEPPED mode. That the
leg is none in REPORT_HOLD is the model's choice (notes/assumptions/20.md) (R74, R80, R81, R92, R98). -/
def Obligations.DwellEndCapturesSample : Prop :=
  ∀ (p : Program) (k : Nat) (x : Segment) (s : State), passThrough s = false → s.cond.program = some p →
    s.cond.mode = .sweeping → s.cond.current = some k → s.cond.segment k = some x → k < 32 →
    x.dwell ≤ min 65535 (s.cond.dwell + s.ring.advance) →
    let next : Nat := if k = p.endSeg then p.startSeg else if k + 1 = s.cond.segCount then 0 else k + 1
    let chosen : Continuation := match p.mode with
      | .stepped => .stepWait next
      | .continuous => .traverse next
      | .single | .singleRestart => if k = p.endSeg then .lifting else .traverse next
    let height : Nat := min 5000 (condReadback s).second
    let sample : PadSample := ⟨k, height, s.cond.seq + 1, s.ring.last.getD 0⟩
    ∃ t, exec .dwellEnd s = .next t ∧ OnlyCond s t ∧
      t.cond.dwell = min 65535 (s.cond.dwell + s.ring.advance) ∧ t.cond.demand = s.cond.demand ∧
      ((condReadback s).taken = true → t.cond.seq = s.cond.seq + 1 ∧
        t.cond.profile[k]? = some (some ⟨height, 0⟩) ∧
        (∀ j : Fin 32, j.val ≠ k → t.cond.profile[j] = s.cond.profile[j])) ∧
      ((condReadback s).taken = false → t.cond.seq = s.cond.seq ∧ t.cond.profile = s.cond.profile ∧
        t.cond.pendingSample = s.cond.pendingSample) ∧
      ((condReadback s).taken = true → (s.cond.pendingSample = none ∨ p.report = .overwrite) →
        t.cond.pendingSample = some sample) ∧
      (((condReadback s).taken = false ∨ s.cond.pendingSample = none ∨ p.report = .overwrite) →
        (chosen = .traverse next → t.cond.mode = .traverse ∧ t.cond.current = some next ∧ t.cond.traverse = 0 ∧
          t.cond.timeoutMark = false ∧ t.cond.cont = .none ∧ t.cond.leg = none) ∧
        (chosen = .stepWait next → t.cond.mode = .stepWait ∧ t.cond.current = some k ∧ t.cond.interval = 0 ∧
          t.cond.cont = .stepWait next ∧ t.cond.leg = none) ∧
        (chosen = .lifting → t.cond.mode = .lifting ∧ t.cond.current = some k ∧ t.cond.cont = .none ∧
          t.cond.leg = none ∧ t.cond.stagedSample = none) ∧
        (chosen ≠ .lifting → t.cond.stagedSample = s.cond.stagedSample)) ∧
      ((condReadback s).taken = true → s.cond.pendingSample.isSome = true → p.report = .protect →
        t.cond.mode = .reportHold ∧ t.cond.pendingSample = s.cond.pendingSample ∧
          t.cond.stagedSample = some sample ∧ t.cond.cont = chosen ∧ t.cond.leg = none ∧ t.cond.current = some k)

/-- The arm command: park radius with force and speed 0 in PARKED and LIFTING, the segment's start radius without
force in TRAVERSE, the edge of the leg with the segment's force and speed in SWEEPING, the stored radius without
force in STEP_WAIT and REPORT_HOLD; so the force is above 0 only in SWEEPING. The pass writes it into the slot
bound to it and keeps it as the last command (R76, R77). -/
def Obligations.ArmCommandByState : Prop :=
  ∀ (p : Program) (k : Nat) (x : Segment) (s : State),
    ((s.cond.mode = .parked ∨ s.cond.mode = .lifting) → armCommand p s = ⟨p.parkRadius, 0, 0⟩) ∧
    (s.cond.current = some k → s.cond.segment k = some x →
      (s.cond.mode = .traverse → armCommand p s = ⟨x.startRadius, 0, x.diskSpeed⟩) ∧
      (s.cond.mode = .sweeping → s.cond.leg = some .toEnd →
        armCommand p s = ⟨x.endRadius, x.downForce, x.diskSpeed⟩) ∧
      (s.cond.mode = .sweeping → s.cond.leg = some .toStart →
        armCommand p s = ⟨x.startRadius, x.downForce, x.diskSpeed⟩)) ∧
    ((s.cond.mode = .stepWait ∨ s.cond.mode = .reportHold) → (armCommand p s).force = 0 ∧
      ((condReadback s).taken = true → (armCommand p s).radius = (condReadback s).value) ∧
      ∀ l, s.cond.lastCmd = some l → (armCommand p s).speed = l.speed) ∧
    (0 < (armCommand p s).force → s.cond.mode = .sweeping) ∧
    ∀ slots : List (List Byte),
      (s.cond.program = none → writeArm s slots = (s, slots)) ∧
      (s.cond.program = some p →
        (writeArm s slots).1 = { s.setCond { s.cond with lastCmd := some (armCommand p s) } with
          free := (writeArm s slots).1.free } ∧
        (writeArm s slots).2 = writeBound s.ring .condCommand (put16 (armCommand p s).radius ++
          put16 (armCommand p s).force ++ [toByte (armCommand p s).speed]) slots)

/-- The arrival check of a matched return. It is made in TRAVERSE, SWEEPING and LIFTING, at the arrival and still,
against the target radius of the present state; the arm has arrived within the tolerance. Arrival in TRAVERSE begins
the sweep, TO_END with the dwell at 0; in SWEEPING it turns the leg; in LIFTING it parks the arm, and a start request
with a member then makes the start check (R73, R78 to R80, R83). A return makes it with the radius the frame carries;
said of a return that sets no status and takes no sample away, since the order of carriage and check is open. -/
def Obligations.ArrivalsMoveTheArm : Prop :=
  ∀ (p : Program) (m : CondMode) (v : Nat) (s : State), s.cond.program = some p →
    let t := arrivalCheck m (some v) s
    let moving (x : CondMode) : Prop := x = .traverse ∨ x = .sweeping ∨ x = .lifting
    let arrived : Prop := moving m ∧ distance v (armCommand p s).radius ≤ p.tolerance
    let parked : Conditioner := { s.cond with mode := .parked, fresh := true, cont := .none, leg := none }
    let asked : Prop := s.cond.startReq = true ∧ s.cond.demand ≠ Parties.empty
    let met : Prop := s.cond.segmentsOk p = true ∧ satisfied s Di.padPresent = true ∧
      satisfied s Di.diskPresent = true
    arrivalCheck m none s = s ∧
    ((¬ moving m ∨ ¬ moving s.cond.mode ∨ p.tolerance < distance v (armCommand p s).radius) → t = s) ∧
    (arrived → s.cond.mode = .traverse → t = s.setCond { s.cond with
      mode := .sweeping, fresh := true, dwell := 0, leg := some .toEnd }) ∧
    (arrived → s.cond.mode = .sweeping →
      (s.cond.leg = some .toEnd → t = s.setCond { s.cond with leg := some .toStart }) ∧
      (s.cond.leg = some .toStart → t = s.setCond { s.cond with leg := some .toEnd })) ∧
    (arrived → s.cond.mode = .lifting →
      (¬ asked → t = s.setCond parked) ∧
      (asked → met → t = s.setCond { parked with
        mode := .traverse, current := some p.startSeg, traverse := 0, timeoutMark := false, dwell := 0
        interval := 0, startReq := false }) ∧
      (asked → ¬ met → t.cond = parked ∧ t = ((s.setHead .a t.headA).setHead .b t.headB).setCond t.cond ∧
        ∀ h : Head, t.head h = { s.head h with
          condUnavailable := (s.head h).condUnavailable || s.cond.demand.has (.head h) })) ∧
    ∀ f : List Byte, passThrough s = false → s.ring.heldD = [] → frameValid f = true → frameKind f = 1 →
      s.ring.last = some (frameCycle f) →
      ∃ u, exec (.returnCycleFrame f) s = .next u ∧ (u.faults = s.faults →
        (s.cond.pendingSample = none ∨ ∀ i, i < frameSlotCount f → ¬ (slotNode (slotOf f i) = ownByte s ∧
          slotKind (slotOf f i) = kindCondReport ∧ slotIndex (slotOf f i) = 0)) →
        u.cond = (arrivalCheck s.cond.mode
          ((boundPayload s.ring (.readback .conditioner) (frameSlots f)).map fun q => le16 q 0) s).cond)

/-! ### Slurry and pulses -/

/-- SELECT n: BAD_ARGUMENT for an index outside the table or an undefined entry; else granted, TAKEN, by the three
cases of R110, the tool controller in the owner set and n current; else IGNORED_STATE. A grant that changes the blend or
the owner set starts the examination of the waiting claims, head A's first and then head B's, and a head whose claim is
granted is unblocked (R113, R15). From NONE the supply comes on and every enabled channel starts: counter 0,
first-period mark set, output inactive, buffer and compare kept; a switch leaves the pulse unit as it is (R110, R114,
R128, R129, R135). Nothing else changes. Said with each waiting head waiting for its blend alone. -/
def Obligations.SelectDirective : Prop :=
  ∀ (count : BitVec 4) (n : Byte) (s : State), passThrough s = false →
    let x := s.slurry
    let grant : Slurry := { x with blend := some n.toNat, owners := { x.owners with tc := true } }
    ((x.blends[n.toNat]?).join = none →
      exec (.select count n) s = .next (s.setSlurry (recordedSlurry count .badArgument x))) ∧
    ((x.blends[n.toNat]?).join.isSome = true → x.owners ≠ Parties.empty → x.blend ≠ some n.toNat →
      x.owners ≠ ⟨false, false, true⟩ →
      exec (.select count n) s = .next (s.setSlurry (recordedSlurry count .ignoredState x))) ∧
    ((x.blends[n.toNat]?).join.isSome = true → WaitsForBlendAlone s .a → WaitsForBlendAlone s .b →
      (x.owners = Parties.empty ∨ x.blend = some n.toNat ∨ x.owners = ⟨false, false, true⟩) →
      ∃ t, exec (.select count n) s = .next t ∧
        t = (((s.setHead .a t.headA).setHead .b t.headB).setSlurry t.slurry).setPulse t.pulse ∧
        t.slurry = recordedSlurry count .taken
          (if x.blend = some n.toNat ∧ x.owners.tc = true then grant else reexamined grant) ∧
        (∀ h : Head, Notified h s t) ∧ PulseFollows False s t)

/-- RELEASE: a tool controller that is no owner is answered IGNORED_STATE. One that is leaves the set, TAKEN; with
others left the blend stays, and an emptied set makes it NONE. The waiting claims are then examined, head A's first and
then head B's against what the first leaves; a head whose claim is granted is unblocked, and returns to RUNNING when its
blend alone held it. With no grant after NONE every running channel stops with its counter, buffer and compare kept;
with one the enabled channels start again (R109, R112, R113, R115, R129, R133, R135). Nothing else changes. Said with
each waiting head waiting for its blend alone; with one head waiting, and with both for blends of their own, the second
part spells out what the examination leaves. -/
def Obligations.ReleaseDirective : Prop :=
  ∀ (count : BitVec 4) (s : State), passThrough s = false →
    let x := s.slurry
    (x.owners.tc = false → exec (.release count) s = .next (s.setSlurry (recordedSlurry count .ignoredState x))) ∧
    (x.owners.tc = true → WaitsForBlendAlone s .a → WaitsForBlendAlone s .b →
      ∃ t, exec (.release count) s = .next t ∧
        t = (((s.setHead .a t.headA).setHead .b t.headB).setSlurry t.slurry).setPulse t.pulse ∧
        t.slurry = recordedSlurry count .taken (departed .tc x) ∧ (∀ h : Head, Notified h s t) ∧
        PulseFollows (x.owners = ⟨false, false, true⟩) s t ∧
        ((x.owners.a = true ∨ x.owners.b = true) → x.waitA = none → x.waitB = none →
          t.slurry.owners = { x.owners with tc := false } ∧ t.slurry.blend = x.blend ∧ t.headA = s.headA ∧
          t.headB = s.headB) ∧
        (x.owners = ⟨false, false, true⟩ → x.waitA = none → x.waitB = none →
          t.slurry.owners = Parties.empty ∧ t.slurry.blend = none ∧ t.headA = s.headA ∧ t.headB = s.headB) ∧
        (∀ n, x.owners = ⟨false, false, true⟩ → x.waitA = some n → (∀ m ∈ x.waitB, m ≠ n) →
          t.slurry.owners = ⟨true, false, false⟩ ∧ t.slurry.blend = some n ∧ t.slurry.waitA = none ∧
          t.slurry.waitB = x.waitB ∧ t.headB = s.headB) ∧
        (∀ n, x.owners = ⟨false, false, true⟩ → x.waitA = none → x.waitB = some n →
          t.slurry.owners = ⟨false, true, false⟩ ∧ t.slurry.blend = some n ∧ t.slurry.waitB = none ∧
          t.headA = s.headA) ∧
        (∀ n, x.owners = ⟨false, false, true⟩ → x.waitA = some n → x.waitB = some n →
          t.slurry.owners = ⟨true, true, false⟩ ∧ t.slurry.blend = some n ∧ t.slurry.waitA = none ∧
          t.slurry.waitB = none) ∧
        ∀ h : Head, (s.head h).mode = .held → (s.head h).causes = ⟨false, false, none, true⟩ →
          t.slurry.wait h ≠ x.wait h → t.head h = { s.head h with mode := .running, causes := HoldCauses.none })

/-- The decision of a head's undecided claim. By the three cases of R110 it is granted; else the head leaves the
owner set, waits, and is HELD with BLEND_WAIT. Stated with the other head not waiting (R110, R111, R20). -/
def Obligations.ClaimsAreDecided : Prop :=
  ∀ (h : Head) (n : Nat) (s : State), s.slurry.undecided h = some n → s.slurry.wait h = none →
    s.slurry.wait (otherHead h) = none → (s.head h).causes.blendWait = false →
    let x := s.slurry.setUndecided h none
    let t := decideClaim h s
    ((x.owners.isEmpty = true ∨ x.blend = some n ∨ x.owners = Parties.empty.put (.head h) true) →
      t.slurry = { x with blend := some n, owners := x.owners.put (.head h) true } ∧ t.head h = s.head h ∧
        t.head (otherHead h) = s.head (otherHead h)) ∧
    (x.owners.isEmpty = false → x.blend ≠ some n → x.owners ≠ Parties.empty.put (.head h) true →
      t.slurry = ({ x with owners := x.owners.put (.head h) false } : Slurry).setWait h (some n) ∧
        t.head h = { s.head h with mode := .held, causes := { (s.head h).causes with blendWait := true } } ∧
        t.head (otherHead h) = s.head (otherHead h) ∧ t.pulse = s.pulse) ∧
    SameSurroundings s t ∧ t.cond = s.cond ∧ t.faults = s.faults

/-- One pass of the flows. Each channel's commanded flow is its share of the current blend, 0 with none (R118). Pushed
a times into a delay line of D values, the line keeps its length, its i-th value is what stood a places further,
or the new flow; the arrived flow is what the last push removed, the new flow when a is greater than D (R119). The
presence factor is 256 times the arrived abrasive flow over the reference, at most 256 (R121). The duty goes into
the pulse buffer, limited to the full period with the sticky flag set (R122). Nothing else changes. -/
def Obligations.FlowsArriveAfterTheDelay : Prop :=
  (∀ (q a : Nat) (f : ChannelFlow), 1 ≤ a →
    (f.pass q a).line.length = f.line.length ∧ (f.pass q a).q = q ∧
    (∀ i, i < f.line.length →
      (f.pass q a).line[i]? = some (if h : i + a < f.line.length then f.line[i + a] else q)) ∧
    (f.pass q a).arrived = (if h : a - 1 < f.line.length then f.line[a - 1] else q) ∧
    (f.pass q a).limited = f.limited ∧ (f.pass q a).dev = f.dev) ∧
  ∀ s : State,
    let t := flowPass s
    let abrasive (c : Channel) : Nat := if s.slurry.channels[c].abrasive then (t.slurry.flows[c]).arrived else 0
    t = (s.setSlurry t.slurry).setPulse t.pulse ∧
    t.slurry = { s.slurry with flows := t.slurry.flows, presence := t.slurry.presence } ∧
    t.slurry.presence =
      min 256 (256 * (abrasive 0 + abrasive 1 + abrasive 2 + abrasive 3) / s.slurry.abrasiveRef) ∧
    t.pulse.supply = s.pulse.supply ∧
    ∀ c : Channel,
      let k := s.slurry.channels[c]
      let q := (t.slurry.flows[c]).q
      (s.slurry.blend = none → q = 0) ∧
      (∀ n b, s.slurry.blend = some n → (s.slurry.blends[n]?).join = some b → q = b.total * b.ratios[c] / 256) ∧
      t.slurry.flows[c] = { (s.slurry.flows[c]).pass q s.ring.advance with
        limited := (s.slurry.flows[c]).limited || decide (2 ^ k.resolution < q * 2 ^ k.resolution / k.fullScale) } ∧
      t.pulse.ch[c] = { s.pulse.ch[c] with
        buffer := min (2 ^ k.resolution) (q * 2 ^ k.resolution / k.fullScale) }

/-- FLOW_PERSISTENCE: a checked channel out of its flow band whose counter reaches its persistence with this advance:
the counter is at the persistence, the status of FLOW_DEVIATION is set; and, for a reaction of NOTIFY or HOLD, the
flows, the blend and the owner set stay.
A matched return makes the flow check of each channel whose check is ON: a readback out of the band around the
commanded flow advances the counter by the advance, up to the persistence; one within it makes it 0; an absent one keeps
it, and so does a channel that is not checked. The status of FLOW_DEVIATION is set exactly when a channel out of band is
then at its persistence (R116, R123, R124). -/
def Obligations.FlowCheckCountsAndSets : Prop :=
  (∀ (c : Channel) (readback : BitVec 16) (s : State), Ready s → ArbiterInv s.faults →
      s.slurry.channels[c].flowCheck = true →
      s.slurry.channels[c].flowBand < distance readback.toNat s.slurry.flows[c].q →
      s.slurry.channels[c].flowPersist ≤ s.slurry.flows[c].dev + s.ring.advance →
      ((s.faults.sources[Src.flowDeviation]).reaction = .notify ∨
        (s.faults.sources[Src.flowDeviation]).reaction = .hold) →
      let counted : ChannelFlow := { s.slurry.flows[c] with dev := s.slurry.channels[c].flowPersist }
      ∃ t, exec (.flowPersistence c readback) s = .next t ∧
        (t.faults.sources[Src.flowDeviation]).status = true ∧
        t.slurry = { s.slurry with flows := s.slurry.flows.set c counted } ∧
        SameSurroundings s t ∧ SameTables s t ∧ t.pulse = s.pulse ∧ t.cond = s.cond) ∧
  ∀ (f : List Byte) (s : State), passThrough s = false → s.ring.heldD = [] → frameValid f = true →
    frameKind f = 1 → s.ring.last = some (frameCycle f) →
    let back (c : Channel) : Option Nat :=
      (boundPayload s.ring (.readback (.flow c)) (frameSlots f)).map fun p => le16 p 0
    let out (c : Channel) (v : Nat) : Prop := s.slurry.channels[c].flowBand < distance v s.slurry.flows[c].q
    let raised : Prop := ∃ c : Channel, s.slurry.channels[c].flowCheck = true ∧ ∃ v ∈ back c, out c v ∧
      s.slurry.channels[c].flowPersist ≤ s.slurry.flows[c].dev + s.ring.advance
    ∃ t, exec (.returnCycleFrame f) s = .next t ∧
      (∀ c : Channel,
        ((s.slurry.channels[c].flowCheck = false ∨ back c = none) →
          (t.slurry.flows[c]).dev = s.slurry.flows[c].dev) ∧
        ∀ v, back c = some v → s.slurry.channels[c].flowCheck = true →
          (out c v → (t.slurry.flows[c]).dev =
            min s.slurry.channels[c].flowPersist (s.slurry.flows[c].dev + s.ring.advance)) ∧
          (¬ out c v → (t.slurry.flows[c]).dev = 0)) ∧
      (raised → t.faults.sources[Src.flowDeviation].status = true) ∧
      (¬ raised → t.faults.sources[Src.flowDeviation] = s.faults.sources[Src.flowDeviation])

/-- COUNTER_WRAP of a running channel: counter 0, the buffer copied into the compare, the first-period mark
clear, the output active exactly with a compare above 0. COMPARE_MATCH of a running channel past its first period
with the compare ahead: the counter at the compare, the output inactive. Both rows act from any count of a running
channel, the µs that lead to the event passing for it alone, the model's choice (notes/assumptions/14.md). Nothing else
changes; a channel that does not run is unchanged by either, the model's choice (notes/assumptions/13.md) (R130,
R131). -/
def Obligations.PulseEvents : Prop :=
  ∀ (c : Channel) (s : State), passThrough s = false →
    let x := s.pulse.ch[c]
    let becomes (y : PulseChannel) : State := s.setPulse { s.pulse with ch := s.pulse.ch.set c y }
    (x.running = true → exec (.counterWrap c) s = .next (becomes
      { x with counter := 0, phase := 0, compare := x.buffer, first := false, active := decide (0 < x.buffer) })) ∧
    (x.running = true → x.first = false → x.counter < x.compare →
      x.compare < 2 ^ s.slurry.channels[c].resolution →
      exec (.compareMatch c) s = .next (becomes { x with counter := x.compare, phase := 0, active := false })) ∧
    (x.running = false → exec (.counterWrap c) s = .next s ∧ exec (.compareMatch c) s = .next s)

/-! ### Discrete inputs -/

/-- The first settling of an input makes its accepted level the level of its pin and changes nothing but that input:
it is no edge and sets no status (R141, R142). One sample: it joins the history of at most three, newest last. The
accepted level becomes the common value of three equal samples and stays otherwise. A sample commanded is taken at once,
whatever the interval, the model's choice (notes/assumptions/41.md). With the rate OFF the row takes no sample and the
pin's level is accepted, the model's choice (notes/assumptions/29.md). When that makes no edge, nothing but the input
changes (R141, R143). -/
def Obligations.SamplesAreAccepted : Prop :=
  ∀ (n : InputId) (pin : Bool) (s : State),
    let v : Bool := if n = Di.leak then !pin else pin
    (s.inputs[n].accepted = none → ∃ x, exec (.firstSettling n pin) s = .next (s.setInput n x) ∧
      x.accepted = some v ∧ x.rate = s.inputs[n].rate ∧ x.pin = pin) ∧
    ∃ t, exec (.inputSample n pin) s = .next t ∧ (t.inputs[n]).rate = s.inputs[n].rate ∧
      (∀ m : InputId, m ≠ n → t.inputs[m] = s.inputs[m]) ∧
      (s.inputs[n].rate = .off → (t.inputs[n]).accepted = some v ∧ (t.inputs[n]).history = s.inputs[n].history) ∧
      (∀ y z, s.inputs[n].rate ≠ .off → s.inputs[n].history = [y, z] →
        (t.inputs[n]).history = [y, z, v] ∧
        (t.inputs[n]).accepted = if y = z ∧ z = v then some v else s.inputs[n].accepted) ∧
      (∀ w y z, s.inputs[n].rate ≠ .off → s.inputs[n].history = [w, y, z] →
        (t.inputs[n]).history = [y, z, v] ∧
        (t.inputs[n]).accepted = if y = z ∧ z = v then some v else s.inputs[n].accepted) ∧
      (s.inputs[n].rate ≠ .off → s.inputs[n].history.length < 2 →
        (t.inputs[n]).history = s.inputs[n].history ++ [v] ∧ (t.inputs[n]).accepted = s.inputs[n].accepted) ∧
      ((t.inputs[n]).accepted = s.inputs[n].accepted → t = s.setInput n (t.inputs[n]))

/-- The accepted edges that faults watch. ESTOP_OK, PAD_PRESENT and DISK_PRESENT falling and LEAK rising set
their status in every state, a pad loss invalidates the whole profile; DOOR_CLOSED falling sets DOOR_OPEN exactly
while a head is in use or the conditioner away from PARKED, a wafer's loss WAFER_LOSS exactly while its head is in
use (R30, R97, R144, R145).
The accepted edges that drive the conditioner or no block. A rising PAD_PRESENT or DISK_PRESENT makes the start
check, which starts the program in PARKED with a start request, a member and every part met. A rising PLATEN_INDEX
moves a STEPPED program on from STEP_WAIT when it is in the trigger set, and is lost otherwise. The other edges
change the input alone (R73, R84, R143). -/
def Obligations.InputEdges : Prop :=
  (∀ (s : State), Ready s →
    let lost (n : InputId) (v : Bool) (i : Instr) (src : SourceId) : Prop :=
      s.inputs[n].accepted = some (!v) → ∃ t, exec i s = .next t ∧ (t.inputs[n]).accepted = some v ∧
        (t.faults.sources[src]).status = true ∧ SameTables s t
    let quiet (n : InputId) (i : Instr) : Prop :=
      s.inputs[n].accepted = some true → ∃ x, exec i s = .next (s.setInput n x) ∧ x.accepted = some false
    let doorInUse : Prop := s.headA.mode.inUse = true ∨ s.headB.mode.inUse = true ∨ s.cond.mode ≠ .parked
    lost Di.estopOk false .estopOkFalling Src.estopChain ∧ lost Di.leak true .leakRising Src.slurryLeak ∧
    lost Di.padPresent false .padPresentFalling Src.padAbsent ∧
    lost Di.diskPresent false .diskPresentFalling Src.diskAbsent ∧
    (∀ t, s.inputs[Di.padPresent].accepted = some true → exec .padPresentFalling s = .next t →
      ∀ k : Fin 32, t.cond.profile[k] = none) ∧
    (doorInUse → lost Di.doorClosed false .doorClosedFalling Src.doorOpen) ∧
    (¬ doorInUse → quiet Di.doorClosed .doorClosedFalling) ∧
    (∀ h : Head, (s.head h).mode.inUse = true →
      lost (Di.wafer h) false (.waferPresentFalling h) (Src.waferLoss h)) ∧
    (∀ h : Head, (s.head h).mode.inUse = false → quiet (Di.wafer h) (.waferPresentFalling h))) ∧
  ∀ (s : State) (p : Program), passThrough s = false → s.cond.program = some p →
    let headFor (k : Nat) (c : Conditioner) : Conditioner := { c with
      mode := .traverse, fresh := true, current := some k, traverse := 0, timeoutMark := false
      cont := .none, leg := none }
    let onlyInput (n : InputId) (v : Bool) (i : Instr) : Prop :=
      s.inputs[n].accepted = some (!v) → ∃ x, exec i s = .next (s.setInput n x) ∧ x.accepted = some v
    let starts (n m : InputId) (i : Instr) : Prop :=
      s.inputs[n].accepted = some false → s.inputs[m].accepted = some true → s.cond.mode = .parked →
      s.cond.startReq = true → s.cond.demand.isEmpty = false → s.cond.segmentsOk p = true →
      let started : Conditioner :=
        { headFor p.startSeg s.cond with dwell := 0, interval := 0, startReq := false }
      ∃ x, exec i s = .next ((s.setInput n x).setCond started) ∧ x.accepted = some true
    starts Di.padPresent Di.diskPresent .padPresentRising ∧ starts Di.diskPresent Di.padPresent .diskPresentRising ∧
    ((s.cond.mode ≠ .parked ∨ s.cond.startReq = false ∨ s.cond.demand.isEmpty = true) →
      onlyInput Di.padPresent true .padPresentRising ∧ onlyInput Di.diskPresent true .diskPresentRising) ∧
    (∀ k, s.inputs[Di.platenIndex].accepted = some false → s.cond.mode = .stepWait →
      s.cond.cont = .stepWait k → p.trigPlatenIndex = true →
      ∃ x, exec .platenIndexRising s = .next ((s.setInput Di.platenIndex x).setCond (headFor k s.cond)) ∧
        x.accepted = some true) ∧
    ((s.cond.mode ≠ .stepWait ∨ p.trigPlatenIndex = false) →
      onlyInput Di.platenIndex true .platenIndexRising) ∧
    onlyInput Di.estopOk true (.inputEdge .estopRising) ∧ onlyInput Di.doorClosed true (.inputEdge .doorRising) ∧
    onlyInput Di.leak false (.inputEdge .leakFalling) ∧
    onlyInput Di.platenIndex false (.inputEdge .platenIndexFalling) ∧
    ∀ h : Head, onlyInput (Di.wafer h) true (.inputEdge (.waferRising h))

/-! ### Responses and reactions -/

/-- A detection sets its source's status, and the source is taken at once when it is enabled and above the response
level: its response is current, the one it displaces on the stack, and its reaction is handed to its scope (R149,
R152 to R154, R157). NOTIFY changes nothing. HOLD holds the RUNNING and HELD heads of its scope with FAULT at its
level, and no other block. RETRACT takes them into RAMPDOWN with end cause FAULT, VENT every head but an IDLE one
into VENTED at its level; of the platen, both empty the demand set and lift the arm, remove the tool controller's
claim, and with the owners gone the channels stop. A head out of scope keeps its state but for a claim that the
removal lets it take (R17, R18, R86, R113, R116, R136, R158 to R160). -/
def Obligations.ReactionsReachTheBlocks : Prop :=
  (∀ (i : SourceId) (s : State), ArbiterInv s.faults →
    let x := s.faults.sources[i]
    let sources := s.faults.sources.set i { x with status := true }
    let r : Response := ⟨x.level, i, x.reaction⟩
    (x.enable = true → s.faults.level < x.level → detect i s = deliver none r (s.setFaults
      ⟨sources, some r, s.faults.current.toList ++ s.faults.stack⟩)) ∧
    ((x.enable = false ∨ x.level ≤ s.faults.level) →
      detect i s = s.setFaults { s.faults with sources := sources })) ∧
  ∀ (r : Response) (s : State), HeadsInv s → SupplyInv s →
    let t := deliver none r s
    let reaches (h : Head) : Prop := scopeHead r.source = none ∨ scopeHead r.source = some h
    let platen : Prop := scopeHead r.source = none
    let cleared : Prop := t.cond.demand = Parties.empty ∧ t.cond.startReq = false ∧
      (t.cond.mode = .parked ∨ t.cond.mode = .lifting) ∧ (s.cond.mode ≠ .parked → t.cond.mode = .lifting) ∧
      t.slurry.owners = Parties.empty ∧ t.slurry.blend = none ∧ t.pulse.supply = false ∧
      ∀ c : Channel, (t.pulse.ch[c]).running = false ∧ (t.pulse.ch[c]).active = false
    SameSurroundings s t ∧ SameTables s t ∧ t.faults = s.faults ∧ t.due = s.due ∧
    (r.reaction = .notify → t = s) ∧
    (r.reaction = .hold → t = (s.setHead .a t.headA).setHead .b t.headB ∧ ∀ h : Head,
      (reaches h → (s.head h).mode.inStep = true → t.head h = { s.head h with
        mode := .held, causes := { (s.head h).causes with fault := some r.level } }) ∧
      ((¬ reaches h ∨ (s.head h).mode.inStep = false) → t.head h = s.head h)) ∧
    (r.reaction = .retract →
      (∀ h : Head, reaches h → (s.head h).mode.inStep = true →
        (t.head h).mode = .rampdown ∧ (t.head h).endCause = some .fault ∧ (t.head h).causes = HoldCauses.none ∧
        (t.head h).pendingStep = none ∧ (t.head h).loopCounter = 0 ∧ Withdrawn h t ∧
        ∀ z : Zone, ((t.head h).zones[z]).target = (s.head h).zoneConf[z].release ∧
          ((t.head h).zones[z]).rate = (s.head h).zoneConf[z].rampRate ∧
          ((t.head h).zones[z]).setpoint = ((s.head h).zones[z]).setpoint) ∧
      (∀ h : Head, (s.head h).mode.inStep = false → SameButMark (t.head h) (s.head h)) ∧ (platen → cleared)) ∧
    (r.reaction = .vent →
      (∀ h : Head, reaches h → (s.head h).mode ≠ .idle →
        (t.head h).mode = .vented ∧ (t.head h).ventLevel = r.level ∧ (t.head h).summary = (s.head h).summary ∧
        ((s.head h).mode.inStep = true → (t.head h).causes = HoldCauses.none ∧ (t.head h).pendingStep = none ∧
          (t.head h).loopCounter = 0 ∧ Withdrawn h t)) ∧
      (∀ h : Head, (s.head h).mode = .idle → SameButMark (t.head h) (s.head h)) ∧ (platen → cleared)) ∧
    ∀ h : Head, ¬ reaches h → s.slurry.wait h = none → SameButMark (t.head h) (s.head h)

/-- A reaction that a head's own step exit or deferral provokes reaches that head when its handling is complete (R161),
said for HOLD, RETRACT and VENT of an enabled source above the response level; each is then the response in force.
STEP_CAP with cap action ABORT: the ramp-down with end cause CAP comes first, so that HOLD and RETRACT find nothing to
do, and VENT vents the head. With CONTINUE and a next step that no hold point defers: the step is begun, and then HELD
with FAULT at the level, or ended by a RETRACT or VENT. STEP_CAP's scope is its head.
HOLD_POINT: the step is deferred first, and then the head is HELD with FAULT beside HOLD_POINT, or ended by a RETRACT or
VENT. Its scope is the platen: the reaction reaches the other head too, and RETRACT and VENT empty the demand set and
the owner set (R16, R17, R22, R23, R86, R116, R148, R157 to R161). -/
def Obligations.ProvokedReactionsReachTheHead : Prop :=
  ∀ (h : Head) (j : Nat) (st : StepEntry) (s : State), Ready s → ArbiterInv s.faults → HeadsInv s → SupplyInv s →
    (s.head h).mode = .running → (s.head h).current = some j → (s.head h).step j = some st →
    st.duration ≤ (s.head h).timer + s.ring.advance →
    let u := s.head h
    let late : Nat := u.timer + s.ring.advance
    let above (i : SourceId) : Prop := s.faults.sources[i].enable = true ∧ s.faults.level < s.faults.sources[i].level
    let inForce (i : SourceId) (t : State) : Prop :=
      t.faults.current = some ⟨s.faults.sources[i].level, i, s.faults.sources[i].reaction⟩ ∧
      t.faults.stack = s.faults.current.toList ++ s.faults.stack ∧ t.faults.sources[i].status = true ∧
      SameSurroundings s t ∧ SameTables s t ∧ t.due = []
    let ended (mode : HeadMode) (k : Head) (t : State) : Prop :=
      (t.head k).mode = mode ∧ (t.head k).causes = HoldCauses.none ∧ (t.head k).pendingStep = none ∧
      (t.head k).loopCounter = 0 ∧ Withdrawn k t
    (let i := Src.stepCap h
      let level := s.faults.sources[i].level
      above i → st.exitKind ≠ .time → (st.exitKind = .removal ∨ u.endpoint = false) →
      (st.exitKind = .endpoint ∨ ∀ z n, st.refZone = some z → st.removalTarget = some n → u.stepAcc[z] < n * 65536) →
      s.slurry.wait (otherHead h) = none →
      (st.capAction = .abort → ∃ t, exec (.stepCap h) s = .next t ∧ inForce i t ∧
        (t.head h).cappedSteps = min 65535 (u.cappedSteps + 1) ∧ (t.head h).endCause = some .cap ∧
        SameButMark (t.head (otherHead h)) (s.head (otherHead h)) ∧
        (s.faults.sources[i].reaction ≠ .vent → RampingDown .cap { u with timer := late } (t.head h) ∧
          Withdrawn h t ∧ (t.head h).ventLevel = u.ventLevel) ∧
        (s.faults.sources[i].reaction = .vent → ended .vented h t ∧ (t.head h).ventLevel = level)) ∧
      ∀ next, st.capAction = .continue → st.loop = none → j + 1 < u.stepCount → holdPointHit s h (j + 1) = false →
        u.step (j + 1) = some next → ∃ t, exec (.stepCap h) s = .next t ∧ inForce i t ∧
          (t.head h).cappedSteps = min 65535 (u.cappedSteps + 1) ∧ (t.head h).current = some (j + 1) ∧
          (t.head h).timer = 0 ∧ (t.head h).stepsExecuted = min 65535 (u.stepsExecuted + 1) ∧
          SameButMark (t.head (otherHead h)) (s.head (otherHead h)) ∧
          (s.faults.sources[i].reaction = .hold →
            Begun (j + 1) next u { t.head h with mode := .running } ∧ (t.head h).mode = .held ∧
            (t.head h).causes = ⟨false, false, some level, false⟩ ∧ BlendHanded h next.blend s t ∧
            Conditioned h next.conditioning next.blend (marks h u s) s t) ∧
          (s.faults.sources[i].reaction = .retract →
            ended .rampdown h t ∧ (t.head h).endCause = some .fault ∧ ∀ z : Zone,
              ((t.head h).zones[z]).target = u.zoneConf[z].release ∧
              ((t.head h).zones[z]).rate = u.zoneConf[z].rampRate) ∧
          (s.faults.sources[i].reaction = .vent → ended .vented h t ∧ (t.head h).ventLevel = level)) ∧
    (let i := Src.holdPoint
      let level := s.faults.sources[i].level
      above i → st.exitKind = .time → st.loop = none → j + 1 < u.stepCount → holdPointHit s h (j + 1) = true →
      ∃ t, exec (.stepTimeExit h) s = .next t ∧ inForce i t ∧ (t.head h).current = some j ∧
        (t.head h).timer = late ∧ (t.head h).stepsExecuted = u.stepsExecuted ∧
        (s.faults.sources[i].reaction = .hold →
          t.head h = { u with
            timer := late, mode := .held, pendingStep := some (j + 1), causes := ⟨false, true, some level, false⟩ } ∧
          t.head (otherHead h) = (if (s.head (otherHead h)).mode.inStep = true then
            { s.head (otherHead h) with
              mode := .held, causes := { (s.head (otherHead h)).causes with fault := some level } }
            else s.head (otherHead h)) ∧ t.cond = s.cond ∧ t.slurry = s.slurry ∧ t.pulse = s.pulse) ∧
        ((s.faults.sources[i].reaction = .retract ∨ s.faults.sources[i].reaction = .vent) →
          t.cond.demand = Parties.empty ∧ t.cond.startReq = false ∧
          (s.cond.mode ≠ .parked → t.cond.mode = .lifting) ∧ t.slurry.owners = Parties.empty ∧
          t.slurry.blend = none ∧ t.pulse.supply = false) ∧
        (s.faults.sources[i].reaction = .retract → ∀ k : Head, (s.head k).mode.inStep = true →
          ended .rampdown k t ∧ (t.head k).endCause = some .fault) ∧
        (s.faults.sources[i].reaction = .vent → ∀ k : Head, (s.head k).mode ≠ .idle →
          (t.head k).mode = .vented ∧ (t.head k).ventLevel = level ∧
          ((s.head k).mode.inStep = true → ended .vented k t)))

/-! ### The ring: ages, the gap timer, frames -/

/-- The age of a bound readback, advanced by 1 and saturating at 255, past the stale limit with its owner in use:
the age is held, no other readback and nothing else of the ring changes, and the status of its source is set. In
every other case there is no event, and nothing changes (R175, R176; the last clause is the model's choice,
notes/assumptions/13.md).
The expiry of a running frame gap timer: the timer stops, the status of FRAME_GAP is set. The row acts from any
count of a running timer, the µs that lead to the expiry passing for it alone, the model's choice
(notes/assumptions/14.md). Below level 7 its response is taken: level 7 and VENT are in force, every head but an IDLE
one is VENTED with vent level 7, the demand set is empty and the arm parked or lifting, the tool controller is no owner,
the supply is off (R150, R160, R180). A timer that does not run makes no event, and the row changes nothing, the model's
choice (notes/assumptions/13.md). -/
def Obligations.RingEvents : Prop :=
  (∀ (k : ReadbackId) (s : State), Ready s →
    let age : Nat := min 255 ((storedReadback s k).age + 1)
    let past : Prop := (slotFor s.ring (.readback k)).isSome = true ∧ s.ring.staleLimit < age ∧ ownerInUse s k = true
    (past → ∃ t, exec (.readbackAgeStale k) s = .next t ∧
      storedReadback t k = { storedReadback s k with age := age } ∧
      (∀ j, j ≠ k → storedReadback t j = storedReadback s j) ∧
      t.ring = { s.ring with store := t.ring.store } ∧ SameTables s t ∧
      (t.faults.sources[staleSource k]).status = true) ∧
    (¬ past → exec (.readbackAgeStale k) s = .next s)) ∧
  ∀ s : State, Ready s → ArbiterInv s.faults →
    (∀ n, s.ring.gap = .running n → ∃ t, exec .frameGap s = .next t ∧
      t.ring = { s.ring with gap := .expired } ∧ (t.faults.sources[Src.frameGap]).status = true ∧
      SameTables s t ∧ t.inputs = s.inputs ∧ t.holdPoints = s.holdPoints ∧
      (s.faults.level = 7 → t.faults.current = s.faults.current ∧ t.headA = s.headA ∧ t.headB = s.headB ∧
        t.cond = s.cond ∧ t.slurry = s.slurry ∧ t.pulse = s.pulse) ∧
      (s.faults.level < 7 → t.faults.current = some ⟨7, Src.frameGap, .vent⟩ ∧
        (∀ h : Head, (s.head h).mode ≠ .idle → (t.head h).mode = .vented ∧ (t.head h).ventLevel = 7) ∧
        (∀ h : Head, (s.head h).mode = .idle → (t.head h).mode = .idle) ∧
        t.cond.demand = Parties.empty ∧ (t.cond.mode = .parked ∨ t.cond.mode = .lifting) ∧
        t.slurry.owners.tc = false ∧ t.pulse.supply = false)) ∧
    ((∀ n, s.ring.gap ≠ .running n) → exec .frameGap s = .next s)

/-- A taken outbound frame n, one whose number is not the last taken one: the advance is 1 with none taken yet, else the
difference mod 65536 from the last taken number up to 8, and 1 above it, a discontinuity. Its number and advance are
held, the pad profile ages by the advance but for a segment captured on the frame (R95, R96), wafer cycles run by it
where the head was RUNNING, HELD or RAMPDOWN at the arrival (R27), the gap timer restarts, every bound readback ages
by 1, a discontinuity sets its status; and the frame that leaves at D is valid, has the same header and slots, and
differs only in the payloads of slots bound to the part's own commands. Each zone's command stands in the first slot
bound to it, and the arm command in its slot is the last command, that of a conditioner the frame left where it stood
(R76, R77). A directive slot is synchronised against its block's count: with none held, or the same, no directive
is acted on and the outcome stays; with another it is recorded with an outcome, BAD_ARGUMENT for an unknown code
(R7, R177). The duties stand in the pulse buffers (R122). Payload bytes without a field are zero, the model's
choice (notes/assumptions/18.md) (R46, R168, R170, R171, R174, R176, R180). The block order is the model's choice
where the rules leave it open (notes/assumptions/7.md). What the blocks do with the frame FrameRunsTheBlocks and
FrameDirectivesAct say. -/
def Obligations.OutboundFrameTaken : Prop :=
  ∀ (f : List Byte) (s : State), passThrough s = false → s.ring.heldU = [] → frameValid f = true →
    frameKind f = 1 → s.ring.last ≠ some (frameCycle f) →
    let ahead (m : BitVec 16) : Nat := ((frameCycle f).toNat + 65536 - m.toNat) % 65536
    let a : Nat := match s.ring.last with
      | none => 1
      | some m => if ahead m ≤ 8 then ahead m else 1
    let broken : Prop := ∃ m ∈ s.ring.last, 8 < ahead m
    let synced (held : Option (BitVec 4)) (last : Option DirOutcome) (x : List Byte) (codes : Nat)
        (count : Option (BitVec 4)) (outcome : Option DirOutcome) : Prop :=
      count = some (slotCount x) ∧ ((held = none ∨ held = some (slotCount x)) → outcome = last) ∧
      (∀ c, held = some c → c ≠ slotCount x → outcome.isSome = true ∧
        ((slotCode x = 0 ∨ codes ≤ slotCode x) → outcome = some .badArgument))
    ∃ t g, exec (.outboundCycleFrame f) s = .next t ∧ t.ring.outD = some g ∧ t.ring.outU = s.ring.outU ∧
      t.ring.last = some (frameCycle f) ∧ t.ring.advance = a ∧ t.ring.gap = .running 0 ∧
      t.ring.heldU = [] ∧ t.ring.heldD = s.ring.heldD ∧ t.inputs = s.inputs ∧ t.holdPoints = s.holdPoints ∧
      SameTables s t ∧ (broken → (t.faults.sources[Src.cycleDiscontinuity]).status = true) ∧
      (¬ broken → (t.faults.sources[Src.cycleDiscontinuity]).status =
        (s.faults.sources[Src.cycleDiscontinuity]).status) ∧
      (∀ h : Head, ((s.head h).mode.inUse = true →
          (t.head h).waferCycles = min (2 ^ 32 - 1) ((s.head h).waferCycles + a)) ∧
        ((s.head h).mode.inUse = false → (t.head h).waferCycles = (s.head h).waferCycles ∨
          ((t.head h).waferCycles = 0 ∧ (t.head h).outcome = some .taken))) ∧
      (∀ k : Fin 32, t.cond.profile[k] = (s.cond.profile[k]).map (fun e => ⟨e.height, min 65535 (e.age + a)⟩) ∨
        (s.cond.mode = .sweeping ∧ s.cond.current = some k.val ∧ (condReadback s).taken = true ∧
          t.cond.profile[k] = some ⟨min 5000 (condReadback s).second, 0⟩)) ∧
      (∀ k, storedReadback t k = if (slotFor s.ring (.readback k)).isSome = true
        then { storedReadback s k with age := min 255 ((storedReadback s k).age + 1) } else storedReadback s k) ∧
      frameValid g = true ∧ g.length = f.length ∧ g.take 8 = f.take 8 ∧
      (∀ i, i < frameSlotCount f → (slotOf g i).take 4 = (slotOf f i).take 4 ∧
        (¬ carriesCommand s.ring (slotOf f i) → slotOf g i = slotOf f i)) ∧
      (SlotMapInv s → ∀ h z p, boundPayload s.ring (.zoneCommand h z) (frameSlots g) = some p →
        p = padTo 12 (put16 ((t.head h).zones[z]).command)) ∧
      (∀ x p, SlotMapInv s → s.cond.program = some x →
        boundPayload s.ring .condCommand (frameSlots g) = some p →
        ∃ l, t.cond.lastCmd = some l ∧ p = padTo 12 (put16 l.radius ++ put16 l.force ++ [toByte l.speed])) ∧
      (∀ x, s.cond.program = some x → (s.cond.mode = .parked ∨ s.cond.mode = .lifting ∨ s.cond.mode = .traverse ∨
          s.cond.mode = .sweeping) → t.cond.mode = s.cond.mode → t.cond.current = s.cond.current →
        t.cond.leg = s.cond.leg → t.cond.lastCmd = some (armCommand x s)) ∧
      (∀ h, ownHeadSlot s h (frameSlots f) = none → (t.head h).endpoint = false ∧
        (t.head h).dirCount = (s.head h).dirCount ∧ (t.head h).outcome = (s.head h).outcome) ∧
      (∀ h x, ownHeadSlot s h (frameSlots f) = some x → (t.head h).endpoint = slotEndpoint x ∧
        synced (s.head h).dirCount (s.head h).outcome x 7 (t.head h).dirCount (t.head h).outcome) ∧
      (∀ x, ownSlot s kindCondDirective (frameSlots f) = some x →
        synced s.cond.dirCount s.cond.outcome x 4 t.cond.dirCount t.cond.outcome) ∧
      (∀ x, ownSlot s kindSlurryDirective (frameSlots f) = some x →
        synced s.slurry.dirCount s.slurry.outcome x 3 t.slurry.dirCount t.slurry.outcome) ∧
      ∀ c : Channel, (t.pulse.ch[c]).buffer = min (2 ^ (s.slurry.channels[c]).resolution)
        ((t.slurry.flows[c]).q * 2 ^ (s.slurry.channels[c]).resolution / (s.slurry.channels[c]).fullScale)

/-- What the blocks do on a taken outbound frame, said of one that changes no status and no response; `a` is the frame's
advance.
A head that takes no directive and has no step exit is left as the zone computation leaves it: its wafer cycles and, in
RUNNING, its step timer run by the advance, and HeadUnit.compute, which CommandsFollowThePipeline and
FixedCommandsAndCompletion describe, makes the pass of its zones, with the pad profile aged by the frame, before or
after the conditioner's pass (R96 allows both). Its claims may change its mode and BLEND_WAIT besides, and its
conditioner-unavailable mark is left open.
The conditioner makes the count of its state (R75, R79, R80, R84), said with both heads so.
The slurry controller decides the undecided claims, head A's first and then head B's, as ClaimsAreDecided says of
decideClaim, and makes the pass of the flows, as FlowsArriveAfterTheDelay says of flowPass, for commanded and arrived
flows, presence factor, duties and buffers; said with both heads so and no slurry directive to take (R7, R21, R27, R36,
R75, R95, R111, R117 to R122, R177). -/
def Obligations.FrameRunsTheBlocks : Prop :=
  ∀ (f : List Byte) (s : State), passThrough s = false → s.due = [] → s.ring.heldU = [] → frameValid f = true →
    frameKind f = 1 → s.ring.last ≠ some (frameCycle f) → HeadsInv s →
    ∃ t, exec (.outboundCycleFrame f) s = .next t ∧ (t.faults = s.faults →
      let a := t.ring.advance
      let silent (held : Option (BitVec 4)) (slot : Option (List Byte)) : Prop :=
        ∀ x ∈ slot, held = none ∨ held = some (slotCount x)
      let quiet (h : Head) : Prop := GoesOn a (s.head h) ∧
        silent (s.head h).dirCount (ownHeadSlot s h (frameSlots f)) ∧
        (∀ x ∈ ownHeadSlot s h (frameSlots f), slotEndpoint x = false) ∧
        ((s.head h).pendingStep = none ∨ (s.slurry.wait h = none ∧ s.slurry.undecided h = none))
      (∀ h : Head, quiet h → ∃ (c : Conditioner) (marked : Bool), (c = t.cond ∨ c = agedCond a s.cond) ∧
        let u : HeadUnit := { s.head h with
          waferCycles := if (s.head h).mode.inUse = true then min (2 ^ 32 - 1) ((s.head h).waferCycles + a)
            else (s.head h).waferCycles
          timer := if (s.head h).mode = .running then (s.head h).timer + a else (s.head h).timer
          fresh := false, endpoint := false, dirCount := (t.head h).dirCount, condUnavailable := marked }
        (t.head h).zones = (u.compute c a).zones ∧
        (s.slurry.wait h = none → s.slurry.undecided h = none → SameButMark (t.head h) (u.compute c a))) ∧
      (quiet .a → quiet .b → silent s.cond.dirCount (ownSlot s kindCondDirective (frameSlots f)) →
        let q : State := (s.setRing t.ring).setCond { agedCond a s.cond with dirCount := t.cond.dirCount }
        (s.cond.program = none → SameArm t.cond q.cond) ∧
        ∀ p, s.cond.program = some p → Counted False p a q t.cond) ∧
      (quiet .a → quiet .b → silent s.slurry.dirCount (ownSlot s kindSlurryDirective (frameSlots f)) →
        let decided : State := decideClaim .b (decideClaim .a s)
        let passed : State := flowPass (decided.setRing { decided.ring with advance := a })
        t.slurry = { passed.slurry with dirCount := t.slurry.dirCount } ∧ t.pulse = passed.pulse ∧
        ∀ h : Head, (s.head h).mode.inStep = true →
          (t.head h).mode = (decided.head h).mode ∧ (t.head h).causes = (decided.head h).causes))

/-- A directive that a frame brings with a new count does what its row does (R7, R10 to R14, R87 to R90, R114, R115,
R177); said of a frame that changes no status and no response.
A head's, with the other head in no step: the outcome is the row's, and, unless the head was RUNNING and stays so, the
head is left as the row leaves it, its wafer cycles run by the advance and its zones computed; the claim of a step that
the directive entered is then decided and the flows passed. A conditioner's, with no head directive and no step exit:
the conditioner makes the count of the state that the row leaves, unless the row entered it. A slurry directive, with
none either: the flows pass over what the row leaves after the claims of the frame are decided. -/
def Obligations.FrameDirectivesAct : Prop :=
  ∀ (f : List Byte) (s : State), passThrough s = false → s.due = [] → s.ring.heldU = [] → frameValid f = true →
    frameKind f = 1 → s.ring.last ≠ some (frameCycle f) → HeadsInv s →
    ∃ t, exec (.outboundCycleFrame f) s = .next t ∧ (t.faults = s.faults →
      let a := t.ring.advance
      let slots := frameSlots f
      let fresh (held : Option (BitVec 4)) (x : List Byte) : Prop := ∃ c ∈ held, c ≠ slotCount x
      let quiet (h : Head) : Prop := GoesOn a (s.head h) ∧ ownHeadSlot s h slots = none ∧
        ((s.head h).pendingStep = none ∨ (s.slurry.wait h = none ∧ s.slurry.undecided h = none))
      let flowed (v : State) : Prop :=
        let passed : State := flowPass (v.setRing { v.ring with advance := a })
        t.slurry = passed.slurry ∧ t.pulse = passed.pulse
      let headRow (h : Head) (x : List Byte) : Option Instr := match slotCode x with
        | 1 => some (.start h (slotCount x) (slotEndpoint x))
        | 2 => some (.hold h (slotCount x) (slotEndpoint x))
        | 3 => some (.resume h (slotCount x) (slotEndpoint x))
        | 4 => some (.stop h (slotCount x) (slotEndpoint x))
        | 5 => some (.vent h (slotCount x) (slotEndpoint x))
        | 6 => some (.recover h (slotCount x) (slotEndpoint x))
        | _ => none
      let condRow (x : List Byte) : Option Instr := match slotCode x with
        | 1 => some (.startSweep (slotCount x))
        | 2 => some (.stopSweep (slotCount x))
        | 3 => some (.step (slotCount x))
        | _ => none
      let slurryRow (x : List Byte) : Option Instr := match slotCode x with
        | 1 => some (.select (slotCount x) ((slotPayload x).getD 2 0))
        | 2 => some (.release (slotCount x))
        | _ => none
      (∀ h x i, ownHeadSlot s h slots = some x → fresh (s.head h).dirCount x → headRow h x = some i →
        (s.head (otherHead h)).mode.inStep = false → ownHeadSlot s (otherHead h) slots = none →
        ownSlot s kindCondDirective slots = none → ownSlot s kindSlurryDirective slots = none →
        s.slurry.undecided h = none →
        ∃ v c, exec i s = .next v ∧ (c = t.cond ∨ c = agedCond a s.cond) ∧
          (t.head h).outcome = (v.head h).outcome ∧
          (¬ ((s.head h).mode = .running ∧ (v.head h).mode = .running) →
            let u : HeadUnit := { v.head h with
              waferCycles := if (s.head h).mode.inUse = true then min (2 ^ 32 - 1) ((v.head h).waferCycles + a)
                else (v.head h).waferCycles }
            let w := u.compute c a
            let d : State := decideClaim h v
            flowed d ∧ t.cond.demand = v.cond.demand ∧ t.head h = { w with
              mode := if (v.head h).mode.inStep = true then (d.head h).mode else w.mode
              causes := (d.head h).causes, fresh := (t.head h).fresh })) ∧
      (quiet .a → quiet .b → ∀ x i, ownSlot s kindCondDirective slots = some x → fresh s.cond.dirCount x →
        condRow x = some i →
        ∃ v, exec i ((s.setRing t.ring).setCond (agedCond a s.cond)) = .next v ∧
          (∀ h : Head, (t.head h).condUnavailable = (v.head h).condUnavailable) ∧
          let entered : Prop := v.cond.mode ≠ s.cond.mode ∨
            (slotCode x = 1 ∧ v.cond.outcome = some .taken ∧ v.cond.mode = .traverse)
          (s.cond.program = none → SameArm t.cond v.cond) ∧
          ∀ p, s.cond.program = some p → Counted entered p a v t.cond) ∧
      (quiet .a → quiet .b → ∀ x i, ownSlot s kindSlurryDirective slots = some x → fresh s.slurry.dirCount x →
        slurryRow x = some i →
        ∃ v, exec i (decideClaim .b (decideClaim .a s)) = .next v ∧ flowed v ∧
          ∀ h : Head, (s.head h).mode.inStep = true →
            (t.head h).mode = (v.head h).mode ∧ (t.head h).causes = (v.head h).causes))

/-- A valid return frame. Unmatched: MATCHED is clear in the frame that leaves at U, the reports of its slots are
filled, and nothing but that frame (and the model's own order) changes. Matched: MATCHED is set, each readback the
frame carries is taken with age 0, the others stay; each summary part that a slot names joins its head's carried
set; a view-0 slot carries the pending sample away, once, and a staged one takes its place and ends REPORT_HOLD;
and, in the model's default order (notes/assumptions/7.md), the reports show the blocks as the frame leaves them,
the conditioner before the carriage. Both: the frame is valid, its header but for MATCHED and the slots of other
nodes stay, no slot header changes, and payload bytes without a field, or whose field has nothing to show, are zero, the
model's choice (notes/assumptions/18.md, 38.md) (R28, R82, R99, R165, R168, R172, R175, R178, R179). The bytes of the
reports ReportsAreLaidOut writes out. -/
def Obligations.ReturnFrameHandled : Prop :=
  ∀ (f : List Byte) (s : State), passThrough s = false → s.ring.heldD = [] → frameValid f = true →
    frameKind f = 1 →
    ∃ t g, exec (.returnCycleFrame f) s = .next t ∧ t.ring.outU = some g ∧
      let own (i : Nat) : Prop := i < frameSlotCount f ∧ slotNode (slotOf f i) = ownByte s
      let reports (i : Nat) (m : State) : Prop :=
        let x := slotOf f i
        let filled (p : List Byte) : Prop := slotOf g i = x.take 4 ++ padTo 12 p
        (slotKind x = kindPartStatus → filled (partStatus m)) ∧
        (∀ h, slotKind x = kindHeadStatus → slotIndex x = headIndex h → filled (headStatus m h)) ∧
        (∀ h p, slotKind x = kindHeadSummary → summaryIndex (slotIndex x) = some (h, p) →
          filled (summaryPart (m.head h).summary p)) ∧
        (∀ v : Fin 3, slotKind x = kindCondReport → slotIndex x = v.val → filled (condReport m.cond v)) ∧
        (∀ v : Fin 4, slotKind x = kindSlurryReport → slotIndex x = v.val → filled (slurryReport m.slurry v))
      let view0 : Prop := ∃ i, i < frameSlotCount f ∧ slotNode (slotOf f i) = ownByte s ∧
        slotKind (slotOf f i) = kindCondReport ∧ slotIndex (slotOf f i) = 0
      t.ring.outD = s.ring.outD ∧ t.ring.heldD = [] ∧ t.ring.heldU = s.ring.heldU ∧
      frameValid g = true ∧ g.length = f.length ∧ g.take 1 = f.take 1 ∧ (g.drop 2).take 6 = (f.drop 2).take 6 ∧
      SameTables s t ∧ t.ring.last = s.ring.last ∧ t.ring.advance = s.ring.advance ∧ t.ring.gap = s.ring.gap ∧
      (∀ i, i < frameSlotCount f → (slotOf g i).take 4 = (slotOf f i).take 4 ∧
        (slotNode (slotOf f i) ≠ ownByte s → slotOf g i = slotOf f i)) ∧
      (s.ring.last ≠ some (frameCycle f) →
        g.getD 1 0 = f.getD 1 0 &&& 0xFE#8 ∧
        t = { s.setRing { s.ring with outU := some g } with retOrders := s.retOrders.tail } ∧
        ∀ i, own i → reports i s) ∧
      (s.ring.last = some (frameCycle f) →
        g.getD 1 0 = f.getD 1 0 ||| 1#8 ∧
        (∀ k, storedReadback t k = match boundPayload s.ring (.readback k) (frameSlots f) with
          | none => storedReadback s k
          | some p => ⟨le16 p 0, if k = .conditioner then le16 p 2 else 0, true, 0⟩) ∧
        (∀ h, ((t.head h).summary = none ↔ (s.head h).summary = none) ∧
          ∀ x y, (s.head h).summary = some x → (t.head h).summary = some y →
            y = { x with carried := y.carried } ∧
            ∀ p : Fin 8, y.carried[p] = true ↔ x.carried[p] = true ∨ ∃ i, i < frameSlotCount f ∧
              slotNode (slotOf f i) = ownByte s ∧ slotKind (slotOf f i) = kindHeadSummary ∧
              summaryIndex (slotIndex (slotOf f i)) = some (h, p)) ∧
        (¬ view0 → t.cond.pendingSample = s.cond.pendingSample) ∧
        (view0 → s.cond.stagedSample = none → t.cond.pendingSample = none) ∧
        (∀ x, view0 → s.cond.pendingSample.isSome = true → s.cond.stagedSample = some x → t.faults = s.faults →
          t.cond.pendingSample = some x ∧ t.cond.stagedSample = none ∧ (s.cond.mode = .reportHold →
            (∀ n, s.cond.cont = .traverse n → t.cond.mode = .traverse ∧ t.cond.current = some n ∧
              t.cond.traverse = 0 ∧ t.cond.timeoutMark = false ∧ t.cond.cont = .none) ∧
            (∀ n, s.cond.cont = .stepWait n → t.cond.mode = .stepWait ∧ t.cond.interval = 0 ∧
              t.cond.cont = .stepWait n) ∧
            (s.cond.cont = .lifting → t.cond.mode = .lifting ∧ t.cond.cont = .none))) ∧
        (s.retOrders = [] → ∃ c : Conditioner,
          (¬ view0 → c = t.cond) ∧ (c.pendingSample = none → c = t.cond) ∧
          c.pendingSample = s.cond.pendingSample ∧ c.seq = t.cond.seq ∧ c.demand = t.cond.demand ∧
          (t.faults = s.faults → c = (arrivalCheck s.cond.mode
            ((boundPayload s.ring (.readback .conditioner) (frameSlots f)).map fun q => le16 q 0) s).cond) ∧
          ∀ i, own i → reports i (t.setCond c)))

/-- What the report slots of a return frame carry, byte by byte in the layouts of section 10.11, said of an unmatched
return, which changes nothing else: HEAD_STATUS, the eight parts of HEAD_SUMMARY, the three views of COND_REPORT, the
four of SLURRY_REPORT, PART_STATUS (ReturnFrameHandled says that a matched return fills its slots alike). A report slot
whose index selects no contents leaves as it came. Payload bytes without a field are zero, the model's choice
(notes/assumptions/18.md), and so are the fields of a last command, last count, FAULT level or carried set that there is
none of (notes/assumptions/38.md) (R27, R29, R91, R101, R125, R154, R165, R178). -/
def Obligations.ReportsAreLaidOut : Prop :=
  ∀ (f : List Byte) (s : State), passThrough s = false → s.ring.heldD = [] → frameValid f = true →
    frameKind f = 1 → s.ring.last ≠ some (frameCycle f) →
    let bit (v : Bool) (n : Nat) : Nat := if v then 2 ^ n else 0
    let number (k : Option Nat) : Byte := match k with | none => 0xFF | some n => toByte n
    let set (q : Parties) : Nat := bit q.a 0 + bit q.b 1 + bit q.tc 2
    let count (k : Option (BitVec 4)) : Nat := match k with | none => 0 | some c => c.toNat
    let outcome (o : Option DirOutcome) : Nat := match o with
      | none => 0 | some .taken => 1 | some .ignoredState => 2 | some .refusedInterlock => 3
      | some .refusedFault => 4 | some .summaryPending => 5 | some .badArgument => 6
    let ended (k : Option EndCause) : Nat := match k with
      | none => 0 | some .normal => 1 | some .stop => 2 | some .cap => 3 | some .fault => 4
    let reaction (r : Reaction) : Byte := match r with | .notify => 1 | .hold => 2 | .retract => 3 | .vent => 4
    let level (n : InputId) : Nat := match s.inputs[n].accepted with | some true => 0 | some false => 1 | none => 2
    let eachChannel (g : Channel → Nat) : List Byte := (List.finRange 4).flatMap fun c => put16 (g c)
    let status (h : Head) : List Byte :=
      let u := s.head h
      let mode : Nat := match u.mode with
        | .idle => 0 | .ready => 1 | .running => 2 | .held => 3 | .rampdown => 4 | .complete => 5 | .vented => 6
      let summary : Nat := match u.summary with
        | none => 0
        | some y => if ∀ p : Fin 8, y.carried[p] = true then 2 else 1
      let parts : Nat := match u.summary with
        | none => 0
        | some y => ((List.finRange 8).map fun p => bit y.carried[p] p.val).sum
      let fault : Nat := match u.causes.fault with | none => 0 | some l => 4 + 16 * l
      [toByte (mode + 8 * ended u.endCause + 64 * summary), number u.current, number u.pendingStep,
       toByte u.loopCounter] ++ putLE 3 u.timer ++
      [toByte (bit u.causes.directive 0 + bit u.causes.holdPoint 1 + fault + bit u.causes.blendWait 3 +
        bit u.endpoint 7), toByte parts,
       toByte (level Di.estopOk + 4 * level Di.doorClosed + 16 * level Di.padPresent + 64 * level (Di.wafer h)),
       toByte (u.ventLevel + bit u.dirCount.isSome 3 + 16 * count u.dirCount), toByte (outcome u.outcome)]
    let part0 (y : Summary) : List Byte :=
      [toByte (1 + 2 * ended y.endCause + bit y.condUnavailable 4 + bit y.ringRange 5)] ++ put16 y.stepsExecuted ++
      put16 y.cappedSteps ++ putLE 4 y.waferCycles
    let zonePart (y : Summary) (k : Fin 7) : List Byte :=
      [toByte (1 + bit y.range[k] 1 + bit y.diff[k] 2)] ++ putLE 4 y.removal[k]
    let c := s.cond
    let condMode : Nat := match c.mode with
      | .parked => 0 | .traverse => 1 | .sweeping => 2 | .stepWait => 3 | .reportHold => 4 | .lifting => 5
    let leg : Nat := match c.leg with | none => 0 | some .toEnd => 1 | some .toStart => 2
    let cont : Nat × Option Nat := match c.cont with
      | .none => (0, none) | .traverse n => (1, some n) | .stepWait n => (2, some n) | .lifting => (3, none)
    let every : List Byte := [toByte (condMode + 8 * leg + bit c.startReq 5 + bit c.pendingSample.isSome 6 +
      bit c.stagedSample.isSome 7)] ++ put16 c.seq.toNat
    let sample : List Byte := match c.pendingSample with
      | none => List.replicate 7 0
      | some y => [toByte y.segment] ++ put16 y.height ++ put16 y.seq.toNat ++ put16 y.cycle.toNat
    let last : ArmCommand := match c.lastCmd with | none => ⟨0, 0, 0⟩ | some l => l
    let y := s.slurry
    let r := s.faults
    ∃ t g, exec (.returnCycleFrame f) s = .next t ∧ t.ring.outU = some g ∧
      ∀ i, i < frameSlotCount f → (slotOf f i).getD 0 0 = ownByte s →
        let x := slotOf f i
        let kind : Byte := x.getD 1 0
        let index : Nat := (x.getD 2 0).toNat
        let filled (p : List Byte) : Prop := slotOf g i = x.take 4 ++ p ++ List.replicate (12 - p.length) 0
        (∀ h, kind = 0x09 → index = headIndex h → filled (status h)) ∧
        (∀ h, kind = 0x0A → (∀ p : Fin 8, index = 128 * headIndex h + p.val → (s.head h).summary = none →
            filled []) ∧
          ∀ q, (s.head h).summary = some q → (index = 128 * headIndex h → filled (part0 q)) ∧
            ∀ k : Fin 7, index = 128 * headIndex h + k.val + 1 → filled (zonePart q k)) ∧
        (kind = 0x0B →
          (index = 0 → filled (every ++ sample ++ [number c.current, toByte (set c.demand)])) ∧
          (index = 1 → filled (every ++ put16 c.dwell ++ put16 c.traverse ++ put16 c.interval ++
            [number c.current, toByte (set c.demand)])) ∧
          (index = 2 → filled (every ++ put16 last.radius ++ put16 last.force ++
            [toByte last.speed, number c.current,
             toByte (cont.1 + 4 * set c.demand + bit c.dirCount.isSome 5 + bit c.lastCmd.isSome 6), number cont.2,
             toByte (count c.dirCount + 16 * outcome c.outcome)]))) ∧
        (kind = 0x0C →
          (index = 0 → filled ([number y.blend,
            toByte (set y.owners + ((List.finRange 4).map fun k => bit y.flows[k].limited (4 + k.val)).sum),
            number y.waitA, number y.waitB] ++ put16 y.presence ++
            [toByte (bit y.dirCount.isSome 0 + 16 * count y.dirCount), toByte (outcome y.outcome)])) ∧
          (index = 1 → filled (eachChannel (fun k => y.flows[k].q) ++ [number y.blend])) ∧
          (index = 2 → filled (eachChannel (fun k => y.flows[k].arrived) ++ [number y.blend])) ∧
          (index = 3 → filled (eachChannel (fun k => y.flows[k].dev) ++ [number y.blend]))) ∧
        (kind = 0x0D → filled ([toByte (r.level + 8 * r.stack.length +
            (if ∃ n : SourceId, r.sources[n].status = true ∧ r.sources[n].enable = true then 64 else 0)),
          number (r.current.map fun k => k.source.val),
          match r.current with | none => 0 | some k => reaction k.reaction] ++
          putLE 3 ((List.finRange 22).map fun n => bit r.sources[n].status n.val).sum ++
          put16 (match s.ring.last with | none => 0 | some n => n.toNat) ++ [toByte s.ring.advance, ownByte s])) ∧
        (((kind = 0x09 ∧ 2 ≤ index) ∨ (kind = 0x0A ∧ 8 ≤ index % 128) ∨ (kind = 0x0B ∧ 3 ≤ index) ∨
          (kind = 0x0C ∧ 4 ≤ index)) → slotOf g i = x)

/-- Frames that no block takes. In pass-through address every frame is forwarded as it came. A duplicate is forwarded
as it came and restarts the gap timer. A corrupt frame of four bytes or more is forwarded at the opposite port,
cut to 1024 bytes, its last four bytes the complement of the CRC of those before them; CORRUPT_FRAME is set, and,
for a source whose reaction is NOTIFY, only the statuses and the response change. A management frame that is no
request to this part, and every management frame at D, is forwarded as it came; an unknown request is answered
UNKNOWN_REQUEST. A frame behind a held one waits with the moment of its arrival, a valid cycle frame at U restarting the
gap timer then; behind two it is discarded (R167, R169, R170, R180 to R182, R184). -/
def Obligations.FramesForwarded : Prop :=
  ∀ (f : List Byte) (s : State),
    (s.ring.heldU = [] → passThrough s = true →
      exec (.outboundCycleFrame f) s = .next (sendD f s) ∧
      exec (.managementFrameForward .u f) s = .next (sendD f s)) ∧
    (s.ring.heldD = [] → passThrough s = true →
      exec (.returnCycleFrame f) s = .next (sendU f s) ∧
      exec (.managementFrameForward .d f) s = .next (sendU f s)) ∧
    (s.ring.heldU = [] → passThrough s = false → frameValid f = true → frameKind f = 1 →
      s.ring.last = some (frameCycle f) →
      exec (.outboundCycleFrame f) s = .next (sendD f (s.setRing { s.ring with gap := .running 0 }))) ∧
    (passThrough s = false → frameValid f = false → 4 ≤ f.length →
      let kept : List Byte := f.take (min 1020 (f.length - 4))
      let bad : List Byte := kept ++ putLE 4 (~~~(crc32 kept)).toNat
      let marked (t u : State) : Prop :=
        t.ring = u.ring ∧ (t.faults.sources[Src.corruptFrame]).status = true ∧ SameTables s t ∧
        (ArbiterInv s.faults → (s.faults.sources[Src.corruptFrame]).reaction = .notify → t = u.setFaults t.faults)
      frameValid bad = false ∧ bad.length = min 1024 f.length ∧
      (s.ring.heldU = [] → ∃ t, exec (.outboundCycleFrame f) s = .next t ∧ marked t (sendD bad s)) ∧
      (s.ring.heldD = [] → ∃ t, exec (.returnCycleFrame f) s = .next t ∧ marked t (sendU bad s))) ∧
    (s.ring.heldU = [] → passThrough s = false → frameValid f = true → frameKind f = 2 →
      (((recordOf f).target ≠ ownByte s ∨ (recordOf f).status ≠ 0xFF#8) →
        exec (.managementFrameForward .u f) s = .next (sendD f s)) ∧
      ((recordOf f).target = ownByte s → (recordOf f).status = 0xFF#8 →
        ((recordOf f).kind.toNat = 0 ∨ 12 ≤ (recordOf f).kind.toNat) →
        exec (.managementFrameForward .u f) s =
          .next (answeredWith (recordOf f) .unknownRequest [] false s))) ∧
    (s.ring.heldD = [] → passThrough s = false → frameValid f = true → frameKind f = 2 →
      exec (.managementFrameForward .d f) s = .next (sendU f s)) ∧
    (∀ x y, (s.ring.heldU = [x] →
        exec (.outboundCycleFrame f) s = .next (s.setRing { s.ring with
          heldU := [x, ⟨f, arrivalOf s⟩]
          gap := if passThrough s = false ∧ frameValid f = true ∧ frameKind f = 1 then .running 0 else s.ring.gap })) ∧
      (s.ring.heldU = [x, y] → exec (.outboundCycleFrame f) s = .next s) ∧
      (s.ring.heldD = [x] →
        exec (.returnCycleFrame f) s = .next (s.setRing { s.ring with heldD := [x, ⟨f, arrivalOf s⟩] })) ∧
      (s.ring.heldD = [x, y] → exec (.returnCycleFrame f) s = .next s))

/-! ### Management requests -/

/-- Every request row is its frame: the record's frame is valid, its record is read back whole, and the raw
management frame at port U does exactly what the row does (R168, R182, R183, R184).
An answer is one frame at port D, over the state that the request leaves: valid, 76 bytes, its header and its target,
kind, tag, table and index as they came, the status code, the data length and the defined marker, zeros up to the data,
and the data, with zeros behind it (R182, section 10.11). -/
def Obligations.RawFrameIsTheRow : Prop :=
  (∀ (i : Instr) (r : Record) (s : State), requestRecord i = some r →
    frameValid r.frame = true ∧ recordOf r.frame = r ∧
      exec (.managementFrameForward .u r.frame) s = exec i s) ∧
  ∀ (r : Record) (st : Status) (d : List Byte) (defined : Bool) (s : State), d.length ≤ 48 →
    let code : Byte := match st with
      | .done => 0 | .busy => 1 | .badTable => 2 | .badIndex => 3 | .badValue => 4 | .badState => 5
      | .unknownRequest => 6
    ∃ g, answeredWith r st d defined s = s.setRing { s.ring with outD := some g } ∧ frameValid g = true ∧
      g.length = 76 ∧
      g.take 72 = [2, r.flags, r.cycle.setWidth 8, (r.cycle >>> 8).setWidth 8, 0, r.byte5, 76, 0] ++
        [r.target, r.kind, r.tag.setWidth 8, (r.tag >>> 8).setWidth 8, code, r.table, r.index.setWidth 8,
         (r.index >>> 8).setWidth 8, toByte d.length, if defined then 1 else 0] ++ List.replicate 6 0 ++ d ++
        List.replicate (48 - d.length) 0

/-- The three reading requests change nothing but the frame that leaves at D. READ_STATE answers the pages that the
blocks have, BAD_TABLE outside blocks 0 to 4 and BAD_INDEX outside a block's pages (ReadStateAnswersThePages says what
a page holds). READ_ENTRY answers an entry in the layout of its table with its defined marker, an undefined or empty one
as zeros with the marker clear, and BAD_TABLE or BAD_INDEX likewise. The bytes of the on and off fields of CHANNEL and
SOURCE are 1 and 0, the model's choice (notes/assumptions/40.md); an absent loop's target byte is answered zero, read by
inference (notes/assumptions/22.md). GET_PARAM answers four bytes of the parameter of the
id, or BAD_INDEX (R184 to R187, sections 10.11 and 11.4). -/
def Obligations.ReadsChangeNothing : Prop :=
  ∀ (b : Byte) (x : BitVec 16) (e : Envelope) (s : State), Executed s e → e.length.toNat ≤ 48 →
    ArbiterInv s.faults →
    let pages : List Nat := [11, 11, 5, 3, 5]
    let sizes : List Nat := [64, 64, 7, 7, 8, 8, 32, 1, 16, 4, 48, 22]
    let state := recordWith e 1 b x
    let entry := recordWith e 3 b x
    let param := recordWith e 5 b x
    let i : Nat := x.toNat
    let holds (d : List Byte) (marked : Bool) : Prop :=
      exec (.readEntry b x e) s = .next (answeredWith entry .done d marked s)
    let value (v : Int) : Prop := exec (.getParam b x e) s = .next (answeredWith param .done (putSigned 4 v) false s)
    let step (st : StepEntry) : List Byte :=
      st.targets.toList.flatMap put16 ++ st.rates.toList.flatMap put16 ++ putLE 4 st.duration ++
      [match st.exitKind with | .time => 0 | .removal => 1 | .endpoint => 2 | .removalOrEndpoint => 3,
       match st.capAction with | .continue => 0 | .abort => 1] ++
      putLE 4 (match st.removalTarget with | none => 0 | some n => n) ++
      [match st.refZone with | none => 0 | some z => toByte (z.val + 1),
       match st.blend with | .absent => 0xFF | .release => 0xFE | .index n => toByte n,
       match st.conditioning with | .absent => 0 | .on => 1 | .off => 2,
       match st.loop with | none => 0 | some l => toByte l.target,
       match st.loop with | none => 0 | some l => toByte l.count]
    let zone (z : ZoneConf) : List Byte :=
      put16 z.lmin ++ put16 z.lmax ++ put16 z.release ++ put16 z.rampRate ++ put16 z.trackBand ++
      put16 z.trackPersist ++ match z.padRange with
        | none => [0xFF, 0xFF]
        | some (first, last) => [toByte first, toByte last]
    let program (p : Program) : List Byte :=
      [toByte p.startSeg, toByte p.endSeg,
       match p.mode with | .single => 0 | .singleRestart => 1 | .continuous => 2 | .stepped => 3,
       (if p.trigDirective then 1 else 0) + (if p.trigPlatenIndex then 2 else 0) + (if p.trigInterval then 4 else 0)] ++
      put16 p.interval ++ put16 p.parkRadius ++ put16 p.tolerance ++ put16 p.traverseLimit ++
      [match p.report with | .protect => 0 | .overwrite => 1]
    let onOff (v : Bool) : Byte := if v then 1 else 0
    let channel (k : ChannelConf) (prescale resolution : Byte) : List Byte :=
      [onOff k.enable, prescale, resolution, onOff k.activeHigh, onOff k.abrasive, toByte k.delay] ++
      put16 k.fullScale ++ [onOff k.flowCheck] ++ put16 k.flowBand ++ put16 k.flowPersist
    let bindingCode (y : Binding) : Byte := match y with
      | .zoneCommand .a z => toByte (1 + z.val) | .zoneCommand .b z => toByte (18 + z.val)
      | .readback (.zone .a z) => toByte (9 + z.val) | .readback (.zone .b z) => toByte (26 + z.val)
      | .readback (.velocity .a) => 17 | .readback (.velocity .b) => 34
      | .condCommand => 35 | .readback .conditioner => 36 | .readback (.flow c) => toByte (37 + c.val)
    (5 ≤ b.toNat → exec (.readState b x e) s = .next (answeredWith state .badTable [] false s)) ∧
    (∀ n, pages[b.toNat]? = some n →
      (n ≤ i → exec (.readState b x e) s = .next (answeredWith state .badIndex [] false s)) ∧
      (i < n → ∃ d, d.length ≤ 48 ∧ exec (.readState b x e) s = .next (answeredWith state .done d false s))) ∧
    ((b = 0 ∨ 13 ≤ b.toNat) → exec (.readEntry b x e) s = .next (answeredWith entry .badTable [] false s)) ∧
    (∀ n, 1 ≤ b.toNat → sizes[b.toNat - 1]? = some n → n ≤ i →
      exec (.readEntry b x e) s = .next (answeredWith entry .badIndex [] false s)) ∧
    (∀ (h : Head) (k : Fin 64), b = tableOf 1 h → i = k.val →
      ((s.head h).steps[k] = none → holds (List.replicate 47 0) false) ∧
      ∀ st, (s.head h).steps[k] = some st → holds (step st) true) ∧
    (∀ (h : Head) (k : Fin 7), b = tableOf 3 h → i = k.val →
      holds (((s.head h).coupling[k]).toList.flatMap (putSigned 2)) true) ∧
    (∀ (h : Head) (z : Zone), b = tableOf 5 h → i = z.val → holds (zone (s.head h).zoneConf[z]) true) ∧
    (∀ k : Fin 32, b = 7 → i = k.val → (s.cond.segments[k] = none → holds (List.replicate 9 0) false) ∧
      ∀ y, s.cond.segments[k] = some y → holds
        (put16 y.startRadius ++ put16 y.endRadius ++ put16 y.dwell ++ put16 y.downForce ++ [toByte y.diskSpeed]) true) ∧
    (b = 8 → i = 0 → (s.cond.program = none → holds (List.replicate 13 0) false) ∧
      ∀ p, s.cond.program = some p → holds (program p) true) ∧
    (∀ k : Fin 16, b = 9 → i = k.val → (s.slurry.blends[k] = none → holds (List.replicate 10 0) false) ∧
      ∀ y, s.slurry.blends[k] = some y → holds (put16 y.total ++ y.ratios.toList.flatMap put16) true) ∧
    (∀ (c : Channel) (m n : Nat), b = 10 → i = c.val →
      [1, 2, 4, 8, 16, 32][m]? = some s.slurry.channels[c].prescale →
      [8, 9, 10, 12][n]? = some s.slurry.channels[c].resolution →
      holds (channel s.slurry.channels[c] (toByte m) (toByte n)) true) ∧
    (∀ c : Channel, b = 10 → i = c.val → ∃ d, d.length = 13 ∧ holds d true) ∧
    (∀ k : Fin 48, b = 11 → i = k.val → (s.ring.slotMap[k] = none → holds [0, 0, 0] false) ∧
      ∀ y, s.ring.slotMap[k] = some y → holds [bindingCode y.binding, y.node, y.kind] true) ∧
    (∀ k : SourceId, b = 12 → i = k.val → holds
      [onOff s.faults.sources[k].enable, toByte s.faults.sources[k].level,
       match s.faults.sources[k].reaction with | .notify => 1 | .hold => 2 | .retract => 3 | .vent => 4] true) ∧
    ((i = 0 ∨ i = 15 ∨ 24 ≤ i) → exec (.getParam b x e) s = .next (answeredWith param .badIndex [] false s)) ∧
    (∀ h : Head, (i = 1 + headIndex h → value (s.head h).stepCount) ∧ (i = 3 + headIndex h → value (s.head h).dmax) ∧
      (i = 5 + headIndex h → value (s.head h).padGain) ∧ (i = 7 + headIndex h → value (s.head h).removalK)) ∧
    (i = 9 → value s.cond.segCount) ∧ (i = 10 → value s.cond.padRef) ∧ (i = 11 → value s.cond.padAgeLimit) ∧
    (i = 12 → value s.slurry.abrasiveRef) ∧ (i = 13 → value s.ring.staleLimit) ∧ (i = 14 → value s.ring.gapLimit) ∧
    ∀ n : InputId, i = 16 + n.val →
      value (match s.inputs[n].rate with | .off => 0 | .us10 => 1 | .us100 => 2 | .us1000 => 3)

/-- What READ_STATE answers, page by page, byte by byte in the layouts of section 10.11: the status of a head, its
zones, its accumulators; the conditioner and its profile; the slurry, the channel marks, the pulse unit; the response
level and every source's status and pending state, the sources' configuration, the stack bottom first, the inputs. The
fields of a last command, last count, FAULT level or carried set that there is none of are zero, the model's choice
(notes/assumptions/38.md); the enable bytes of the sources' pages are 1 and 0, the model's choice
(notes/assumptions/40.md) (R29, R34, R66, R91, R101, R104, R125, R138, R147, R154, R165, R187). -/
def Obligations.ReadStateAnswersThePages : Prop :=
  ∀ (b : Byte) (x : BitVec 16) (e : Envelope) (s : State), Executed s e → e.length.toNat ≤ 48 →
    ArbiterInv s.faults →
    let page (d : List Byte) : Prop :=
      exec (.readState b x e) s = .next (answeredWith (recordWith e 1 b x) .done d false s)
    let bit (v : Bool) (n : Nat) : Nat := if v then 2 ^ n else 0
    let number (k : Option Nat) : Byte := match k with | none => 0xFF | some n => toByte n
    let set (q : Parties) : Nat := bit q.a 0 + bit q.b 1 + bit q.tc 2
    let count (k : Option (BitVec 4)) : Nat := match k with | none => 0 | some c => c.toNat
    let outcome (o : Option DirOutcome) : Nat := match o with
      | none => 0 | some .taken => 1 | some .ignoredState => 2 | some .refusedInterlock => 3
      | some .refusedFault => 4 | some .summaryPending => 5 | some .badArgument => 6
    let reaction (r : Reaction) : Byte := match r with | .notify => 1 | .hold => 2 | .retract => 3 | .vent => 4
    let eachSource (g : SourceId → Bool) : List Byte :=
      putLE 3 ((List.finRange 22).map fun i => bit (g i) i.val).sum
    let eachChannel (g : Channel → Nat) : List Byte := (List.finRange 4).flatMap fun c => put16 (g c)
    let level (n : InputId) : Nat := match s.inputs[n].accepted with | some true => 0 | some false => 1 | none => 2
    let status (h : Head) : List Byte :=
      let u := s.head h
      let mode : Nat := match u.mode with
        | .idle => 0 | .ready => 1 | .running => 2 | .held => 3 | .rampdown => 4 | .complete => 5 | .vented => 6
      let ended : Nat := match u.endCause with
        | none => 0 | some .normal => 1 | some .stop => 2 | some .cap => 3 | some .fault => 4
      let summary : Nat := match u.summary with
        | none => 0
        | some y => if ∀ p : Fin 8, y.carried[p] = true then 2 else 1
      let parts : Nat := match u.summary with
        | none => 0
        | some y => ((List.finRange 8).map fun p => bit y.carried[p] p.val).sum
      let fault : Nat := match u.causes.fault with | none => 0 | some l => 4 + 16 * l
      [toByte (mode + 8 * ended + 64 * summary), number u.current, number u.pendingStep, toByte u.loopCounter] ++
      putLE 3 u.timer ++
      [toByte (bit u.causes.directive 0 + bit u.causes.holdPoint 1 + fault + bit u.causes.blendWait 3 +
        bit u.endpoint 7), toByte parts,
       toByte (level Di.estopOk + 4 * level Di.doorClosed + 16 * level Di.padPresent + 64 * level (Di.wafer h)),
       toByte (u.ventLevel + bit u.dirCount.isSome 3 + 16 * count u.dirCount), toByte (outcome u.outcome)]
    let accumulators (h : Head) (ks : List (Fin 7)) : List Byte :=
      ks.flatMap fun k => putLE 6 (s.head h).stepAcc[k] ++ putLE 6 (s.head h).waferAcc[k]
    let sample (y : Option PadSample) : List Byte := match y with
      | none => List.replicate 7 0
      | some y => [toByte y.segment] ++ put16 y.height ++ put16 y.seq.toNat ++ put16 y.cycle.toNat
    let c := s.cond
    let last : ArmCommand := match c.lastCmd with | none => ⟨0, 0, 0⟩ | some l => l
    let condMode : Nat := match c.mode with
      | .parked => 0 | .traverse => 1 | .sweeping => 2 | .stepWait => 3 | .reportHold => 4 | .lifting => 5
    let leg : Nat := match c.leg with | none => 0 | some .toEnd => 1 | some .toStart => 2
    let cont : Nat × Option Nat := match c.cont with
      | .none => (0, none) | .traverse n => (1, some n) | .stepWait n => (2, some n) | .lifting => (3, none)
    let y := s.slurry
    let blend : List Byte :=
      [number y.blend, toByte (set y.owners + ((List.finRange 4).map fun k => bit y.flows[k].limited (4 + k.val)).sum),
       number y.waitA, number y.waitB] ++ put16 y.presence ++
      [toByte (bit y.dirCount.isSome 0 + 16 * count y.dirCount), toByte (outcome y.outcome)]
    let f := s.faults
    let record (r : Response) : List Byte := [toByte r.level, toByte r.source.val, reaction r.reaction]
    (∀ h : Head, b.toNat = headIndex h → let u := s.head h
      (x = 0 → page (status h ++ put16 u.stepsExecuted ++ put16 u.cappedSteps ++ putLE 4 u.waferCycles ++
        [toByte (bit u.condUnavailable 0)])) ∧
      (∀ z : Zone, x.toNat = z.val + 1 → let q := u.zones[z]
        page (put16 q.target ++ put16 q.rate ++ put16 q.setpoint ++ put16 q.command ++
          [toByte (bit q.range 0 + (if z = 7 then 0 else bit q.diff 1 + bit q.stale 2))] ++ put16 q.track ++
          putSigned 2 (if z = 7 then 0 else q.dev))) ∧
      (x = 9 → page (accumulators h [0, 1, 2, 3])) ∧
      (x = 10 → page (accumulators h [4, 5, 6] ++ put16 u.removalK))) ∧
    (b = 2 →
      (x = 0 → page ([toByte (condMode + 8 * leg + bit c.startReq 5 + bit c.pendingSample.isSome 6 +
          bit c.stagedSample.isSome 7)] ++ put16 c.seq.toNat ++
        [number c.current, toByte (cont.1 + 4 * set c.demand + bit c.dirCount.isSome 5 + bit c.lastCmd.isSome 6 +
          bit c.timeoutMark 7), number cont.2] ++ put16 c.dwell ++ put16 c.traverse ++ put16 c.interval ++
        put16 last.radius ++ put16 last.force ++
        [toByte last.speed, toByte (count c.dirCount + 16 * outcome c.outcome)] ++
        sample c.pendingSample ++ sample c.stagedSample)) ∧
      (∀ k : Fin 4, x.toNat = k.val + 1 → page ((List.finRange 8).flatMap fun n =>
        match (c.profile[8 * k.val + n.val]?).join with
        | none => List.replicate 5 0
        | some q => [1] ++ put16 q.height ++ put16 q.age))) ∧
    (b = 3 →
      (x = 0 → page (blend ++ eachChannel (fun k => y.flows[k].q) ++ eachChannel (fun k => y.flows[k].arrived) ++
        eachChannel fun k => y.flows[k].dev)) ∧
      (x = 1 → page (((List.finRange 4).map fun k => toByte y.channels[k].delay) ++
        [toByte ((List.finRange 4).map fun k => bit y.channels[k].abrasive k.val).sum] ++ put16 y.abrasiveRef)) ∧
      (x = 2 → page ([toByte (bit s.pulse.supply 0)] ++
        ((List.finRange 4).map fun k =>
          toByte (bit s.pulse.ch[k].running 0 + bit s.pulse.ch[k].first 1 + bit s.pulse.ch[k].active 2)) ++
        (List.finRange 4).flatMap fun k => put16 s.pulse.ch[k].buffer ++ put16 s.pulse.ch[k].compare))) ∧
    (b = 4 →
      (x = 0 → page ([toByte (f.level + 8 * f.stack.length +
          (if ∃ i : SourceId, f.sources[i].status = true ∧ f.sources[i].enable = true then 64 else 0)),
        number (f.current.map fun r => r.source.val),
        match f.current with | none => 0 | some r => reaction r.reaction] ++
        eachSource (fun i => f.sources[i].status) ++
        eachSource fun i => f.sources[i].status && f.sources[i].enable && decide (0 < f.sources[i].level))) ∧
      (∀ k : Fin 2, x.toNat = k.val + 1 → page ((List.finRange 11).flatMap fun i =>
        let q := f.sources[11 * k.val + i.val]
        [if q.enable then 1 else 0, toByte q.level, reaction q.reaction])) ∧
      (x = 3 → page (f.stack.reverse.flatMap record)) ∧
      (x = 4 → page ((List.finRange 8).flatMap fun n =>
        [match s.inputs[n].accepted with | some false => 0 | some true => 1 | none => 2,
         match s.inputs[n].rate with | .off => 0 | .us10 => 1 | .us100 => 2 | .us1000 => 3])))

/-- WRITE_ENTRY, table by table, in the order of the checks: too short, the index outside the table, a field out of
range, a closed window, else the entry is written and DONE answered; a request turned away changes nothing. A
CHANNEL write clears the deviation and the limited mark, fills a delay line of a new length with the flow in
force, and zeroes buffer and compare of a new resolution. A SLOTMAP write zeroes the ages of the bindings it
touches. A SOURCE write keeps the status, and nothing else changes while the source is not pending above the
response level. One that leaves its source pending above it has the source taken at once: its response is current, the
displaced one is on the stack, and its reaction is handed to the blocks of its scope before DONE is answered (R151,
R152). What data each table accepts EntriesReadBackAsWritten says. The on and off bytes of CHANNEL and SOURCE are the
model's choice (notes/assumptions/40.md) (R1, R31, R32, R67, R68, R105, R106, R134, R150, R151, R173, R175, R184,
R185). -/
def Obligations.WriteEntryWrites : Prop :=
  ∀ (x : BitVec 16) (e : Envelope) (s : State), Executed s e → e.length.toNat ≤ 48 →
    let d : List Byte := e.data.toList
    let i : Nat := x.toNat
    let row (c : Instr) (table : Byte) (need : Nat) (indexOk dataOk isOpen : Prop) (closed : Status)
        (after : State → Prop) : Prop :=
      let answers (st : Status) : Prop := exec c s = .next (answeredWith (recordWith e 2 table x) st [] false s)
      (e.length.toNat < need → answers .badValue) ∧
      (need ≤ e.length.toNat → ¬ indexOk → answers .badIndex) ∧
      (need ≤ e.length.toNat → indexOk → ¬ dataOk → answers .badValue) ∧
      (need ≤ e.length.toNat → indexOk → dataOk → ¬ isOpen → answers closed) ∧
      (need ≤ e.length.toNat → indexOk → dataOk → isOpen → ∃ t, after t ∧
        exec c s = .next (answeredWith (recordWith e 2 table x) .done [] false t))
    let parked : Prop := s.cond.mode = .parked ∧ s.cond.demand = Parties.empty
    (∀ h : Head, let u := s.head h
      row (.writeEntryStep h x e) (tableOf 1 h) 47 (i < 64) (stepDataOk d = true) (u.mode = .idle) .badState
        (fun t => t = s.setHead h { u with steps := u.steps.setIfInBounds i (some (stepOfData d)) }) ∧
      row (.writeEntryCoupling h x e) (tableOf 3 h) 14 (i < 7) (couplingDataOk i d = true) (u.mode = .idle) .badState
        (fun t => t = s.setHead h { u with coupling := u.coupling.setIfInBounds i (couplingOfData d) }) ∧
      row (.writeEntryZone h x e) (tableOf 5 h) 14 (i < 8) (zoneDataOk i d = true) (u.mode = .idle) .badState
        (fun t => t = s.setHead h { u with zoneConf := u.zoneConf.setIfInBounds i (zoneOfData d) })) ∧
    row (.writeEntrySegment x e) 7 9 (i < 32) (segmentDataOk d = true) parked .busy
      (fun t => t = s.setCond { s.cond with segments := s.cond.segments.setIfInBounds i (some (segmentOfData d)) }) ∧
    row (.writeEntryProgram x e) 8 13 (i = 0) (programDataOk d = true) parked .busy
      (fun t => t = s.setCond { s.cond with program := some (programOfData d) }) ∧
    row (.writeEntryBlend x e) 9 10 (i < 16) (blendDataOk d = true) (s.slurry.blend ≠ some i) .busy
      (fun t => t = s.setSlurry { s.slurry with
        blends := s.slurry.blends.setIfInBounds i (some (blendOfData d)) }) ∧
    (∀ c : Channel, i = c.val →
      let old := s.slurry.channels[c]
      let new := channelOfData d
      let f := s.slurry.flows[c]
      let timing : Prop := old.prescale = new.prescale ∧ old.resolution = new.resolution ∧
        old.activeHigh = new.activeHigh
      row (.writeEntryChannel x e) 10 13 True (channelDataOk d = true)
        ((s.pulse.ch[c]).running = false ∨ timing) .busy
        (fun t => t = (s.setSlurry t.slurry).setPulse t.pulse ∧
          t.slurry.channels = s.slurry.channels.set c new ∧
          t.slurry = { s.slurry with channels := t.slurry.channels, flows := t.slurry.flows } ∧
          (∀ k : Channel, k ≠ c → t.slurry.flows[k] = s.slurry.flows[k] ∧ t.pulse.ch[k] = s.pulse.ch[k]) ∧
          t.slurry.flows[c] = { f with
            dev := 0, limited := false
            line := if old.delay = new.delay then f.line else List.replicate new.delay f.q
            arrived := if old.delay = new.delay then f.arrived else f.q } ∧
          t.pulse.supply = s.pulse.supply ∧ (t.pulse.ch[c]).running = (new.enable && s.pulse.supply) ∧
          (t.pulse.ch[c]).buffer = (if old.resolution = new.resolution then (s.pulse.ch[c]).buffer else 0) ∧
          (t.pulse.ch[c]).compare = (if old.resolution = new.resolution then (s.pulse.ch[c]).compare else 0))) ∧
    (4 ≤ i → 13 ≤ e.length.toNat →
      exec (.writeEntryChannel x e) s = .next (answeredWith (recordWith e 2 10 x) .badIndex [] false s)) ∧
    row (.writeEntrySlotmap x e) 11 3 (i < 48) (slotEntryOk (ownByte s) (otherEntries s.ring i) d = true)
      (s.headA.mode.inUse = false ∧ s.headB.mode.inUse = false ∧ s.cond.mode = .parked) .badState
      (fun t => t = s.setRing { s.ring with
          slotMap := s.ring.slotMap.setIfInBounds i (slotEntryOfData d), store := t.ring.store } ∧
        ∀ k, storedReadback t k = if ((slotEntryOfData d).map (·.binding) = some (.readback k)) ∨
            ((s.ring.slotMap[i]?).join.map (·.binding) = some (.readback k))
          then { storedReadback s k with age := 0 } else storedReadback s k) ∧
    ((∀ j : SourceId, i = j.val →
        (s.faults.sources[j].status = true → byteAt d 0 = 1 → byteAt d 1 ≤ s.faults.level)) →
      ArbiterInv s.faults →
      row (.writeEntrySource x e) 12 3 (i < 22) (sourceDataOk i d = true) True .busy
        (fun t => t = s.setFaults { s.faults with sources := t.faults.sources } ∧
          ∀ j : SourceId, t.faults.sources[j] = if i = j.val
            then ⟨s.faults.sources[j].status, byteAt d 0 = 1, byteAt d 1,
              (Reaction.ofCode (byteAt d 2)).getD .notify⟩
            else s.faults.sources[j])) ∧
    ∀ j : SourceId, i = j.val → s.faults.sources[j].status = true → byteAt d 0 = 1 →
      s.faults.level < byteAt d 1 → ArbiterInv s.faults → ∀ a : Reaction, Reaction.ofCode (byteAt d 2) = some a →
      let taken : Response := ⟨byteAt d 1, j, a⟩
      row (.writeEntrySource x e) 12 3 True (sourceDataOk i d = true) True .busy
        (fun t => t = deliver none taken (s.setFaults
          ⟨s.faults.sources.set j ⟨true, true, byteAt d 1, a⟩, some taken,
            s.faults.current.toList ++ s.faults.stack⟩))

/-- SET_PARAM, parameter by parameter: a value outside its range is answered BAD_VALUE, a closed window BAD_STATE or
BUSY, with nothing changed; else the parameter takes the value. A FRAME_GAP_LIMIT that a running count has reached
expires the timer. The present DI_RATE changes nothing; a new one empties the history, and OFF makes the input
follow its pin (R1, R33, R53, R67, R102, R107, R140, R176, R180, R186). -/
def Obligations.SetParamWrites : Prop :=
  ∀ (b : Byte) (e : Envelope) (s : State), Executed s e → 4 ≤ e.length.toNat → e.length.toNat ≤ 48 →
    let v : Int := signedOf 32 (le32 e.data.toList 0)
    let n : Nat := v.toNat
    let row (c : Instr) (id : BitVec 16) (lo hi : Int) (isOpen : Prop) (closed : Status)
        (after : State → Prop) : Prop :=
      let answers (st : Status) (t : State) : Prop :=
        exec c s = .next (answeredWith (recordWith e 4 b id) st [] false t)
      ((v < lo ∨ hi < v) → answers .badValue s) ∧
      (lo ≤ v → v ≤ hi → ¬ isOpen → answers closed s) ∧
      (lo ≤ v → v ≤ hi → isOpen → ∃ t, after t ∧ answers .done t)
    let parked : Prop := s.cond.mode = .parked ∧ s.cond.demand = Parties.empty
    (∀ h : Head, let u := s.head h; let idle : Prop := u.mode = .idle
      row (.setParamStepCount h b e) (paramId 1 h) 0 64 idle .badState
        (fun t => t = s.setHead h { u with stepCount := n }) ∧
      row (.setParamDmax h b e) (paramId 3 h) 0 12000 idle .badState
        (fun t => t = s.setHead h { u with dmax := n }) ∧
      row (.setParamPadGain h b e) (paramId 5 h) (-256) 256 idle .badState
        (fun t => t = s.setHead h { u with padGain := v }) ∧
      row (.setParamRemovalK h b e) (paramId 7 h) 0 65535 idle .badState
        (fun t => t = s.setHead h { u with removalK := n })) ∧
    row (.setParamSegmentCount b e) 9 1 32 parked .busy (fun t => t = s.setCond { s.cond with segCount := n }) ∧
    row (.setParamPadRefHeight b e) 10 0 5000 True .busy (fun t => t = s.setCond { s.cond with padRef := n }) ∧
    row (.setParamPadAgeLimit b e) 11 0 65535 True .busy
      (fun t => t = s.setCond { s.cond with padAgeLimit := n }) ∧
    row (.setParamAbrasiveRefFlow b e) 12 1 1000 True .busy
      (fun t => t = s.setSlurry { s.slurry with abrasiveRef := n }) ∧
    row (.setParamReadbackStaleLimit b e) 13 1 255 True .busy
      (fun t => t = s.setRing { s.ring with staleLimit := n }) ∧
    row (.setParamFrameGapLimit b e) 14 500 100000 True .busy (fun t =>
      ((∀ k, s.ring.gap = .running k → k < n) → t = s.setRing { s.ring with gapLimit := n }) ∧
      (∀ k, s.ring.gap = .running k → n ≤ k → t.ring = { s.ring with gapLimit := n, gap := .expired } ∧
        (t.faults.sources[Src.frameGap]).status = true)) ∧
    ∀ m : InputId, row (.setParamDiRate m b e) (BitVec.ofNat 16 (16 + m.val)) 0 3 True .busy (fun t =>
      let rate : DiRate := (DiRate.ofCode n).getD .off
      (s.inputs[m].rate = rate → t = s) ∧
      (s.inputs[m].rate ≠ rate → rate ≠ .off →
        t = s.setInput m { s.inputs[m] with rate := rate, history := [], timer := 0 }) ∧
      (s.inputs[m].rate ≠ rate → rate = .off → (t.inputs[m]).rate = .off ∧ (t.inputs[m]).history = [] ∧
        (t.inputs[m]).accepted = some (if m = Di.leak then !s.inputs[m].pin else s.inputs[m].pin) ∧
        ∀ k : InputId, k ≠ m → t.inputs[k] = s.inputs[k]))

/-- ARM: BAD_STATE outside IDLE; from IDLE with a valid recipe the head is READY; else BAD_VALUE with the reason
code of the first check that fails, in the order of R4 and step by step, and the failing step, 255 where no step is at
fault, and nothing changes. Check 8 is read of the steps that carry a loop, the model's choice
(notes/assumptions/33.md). DISARM: from READY, COMPLETE or
VENTED the head is IDLE with no summary, current step and vent level; from IDLE nothing changes; from RUNNING, HELD
or RAMPDOWN BAD_STATE. An index other than 0 and 1 is answered BAD_INDEX (R4, R5, R6, R188). -/
def Obligations.ArmAndDisarm : Prop :=
  ∀ (b : Byte) (x : BitVec 16) (e : Envelope) (s : State), Executed s e → e.length.toNat ≤ 48 →
    let arm := recordWith e 6 b x
    let disarm := recordWith e 7 b x
    (2 ≤ x.toNat → exec (.arm b x e) s = .next (answeredWith arm .badIndex [] false s) ∧
      exec (.disarm b x e) s = .next (answeredWith disarm .badIndex [] false s)) ∧
    ∀ h : Head, x.toNat = headIndex h →
      let u := s.head h
      (u.mode ≠ .idle → exec (.arm b x e) s = .next (answeredWith arm .badState [] false s)) ∧
      (u.mode = .idle → RecipeValid s h →
        exec (.arm b x e) s = .next (answeredWith arm .done [] false (s.setHead h { u with mode := .ready }))) ∧
      (u.mode = .idle →
        let fails (j c : Nat) : Prop :=
          exec (.arm b x e) s = .next (answeredWith arm .badValue [toByte j, toByte c] false s)
        (u.stepCount = 0 → fails 255 1) ∧
        (1 ≤ u.stepCount → ¬ zonesPass u → fails 255 2) ∧
        (∀ j c, 1 ≤ u.stepCount → zonesPass u → j < u.stepCount → (∀ k, k < j → passesBefore s h k 9) →
          passesBefore s h j c → ¬ stepPasses s h j c → fails j c) ∧
        (1 ≤ u.stepCount → zonesPass u → (∀ k, k < u.stepCount → passesBefore s h k 9) →
          (∃ z : Zone, slotFor s.ring (.zoneCommand h z) = none) → fails 255 9)) ∧
      ((u.mode = .ready ∨ u.mode = .complete ∨ u.mode = .vented) →
        exec (.disarm b x e) s = .next (answeredWith disarm .done [] false
          (s.setHead h { u with mode := .idle, summary := none, current := none, ventLevel := 0 }))) ∧
      (u.mode = .idle → exec (.disarm b x e) s = .next (answeredWith disarm .done [] false s)) ∧
      (u.mode.inUse = true → exec (.disarm b x e) s = .next (answeredWith disarm .badState [] false s))

/-- CLEAR_SOURCES clears the status of every source it names, whatever its level and scope, and takes nothing: the
current response, the stack and everything else stay. A set that names an index above 21 is answered BAD_VALUE and
clears nothing (R156). -/
def Obligations.ClearSourcesClears : Prop :=
  ∀ (b : Byte) (x : BitVec 16) (e : Envelope) (s : State), Executed s e → 3 ≤ e.length.toNat →
    e.length.toNat ≤ 48 → ArbiterInv s.faults →
    let d := e.data.toList
    let r := recordWith e 9 b x
    (byteAt d 2 < 64 →
      ∃ f : Arbiter, exec (.clearSources b x e) s = .next (answeredWith r .done [] false (s.setFaults f)) ∧
        f.current = s.faults.current ∧ f.stack = s.faults.stack ∧
        ∀ i : SourceId, f.sources[i] = { s.faults.sources[i] with
          status := s.faults.sources[i].status && !((byteAt d (i.val / 8)).testBit (i.val % 8)) }) ∧
    (64 ≤ byteAt d 2 → exec (.clearSources b x e) s = .next (answeredWith r .badValue [] false s))

/-- SET_HOLD_POINT writes a comparator whole; a value out of range is answered BAD_VALUE, an index other than 0 and
1 BAD_INDEX. With the response level above 0, RETURN_LEVEL makes the top record the current response; a source
still pending above the new level is taken at once, the lowest index at the highest level, with the stack as
before; at level 0 it is answered BAD_STATE (R16, R152, R154, R155, R188). -/
def Obligations.HoldPointAndLevelRequests : Prop :=
  ∀ (b : Byte) (x : BitVec 16) (e : Envelope) (s : State), Executed s e → e.length.toNat ≤ 48 →
    let d := e.data.toList
    let point := recordWith e 8 b x
    let back := recordWith e 10 b x
    let popped : Arbiter := { s.faults with current := s.faults.stack.head?, stack := s.faults.stack.tail }
    (∀ (k : Fin 2) (h : Head) (j : Nat), x.toNat = k.val → 3 ≤ e.length.toNat →
      byteAt d 0 ≤ 1 → byteAt d 1 = headIndex h → byteAt d 2 = j → j ≤ 63 →
      exec (.setHoldPoint b x e) s = .next (answeredWith point .done [] false
        (s.setHoldPoints (s.holdPoints.set k ⟨byteAt d 0 = 1, h, j⟩)))) ∧
    (3 ≤ e.length.toNat → 2 ≤ x.toNat →
      exec (.setHoldPoint b x e) s = .next (answeredWith point .badIndex [] false s)) ∧
    (3 ≤ e.length.toNat → x.toNat < 2 → (1 < byteAt d 0 ∨ 1 < byteAt d 1 ∨ 63 < byteAt d 2) →
      exec (.setHoldPoint b x e) s = .next (answeredWith point .badValue [] false s)) ∧
    (s.faults.level = 0 → exec (.returnLevel b x e) s = .next (answeredWith back .badState [] false s)) ∧
    (0 < s.faults.level → (∀ i : SourceId, s.faults.sources[i].isPending = true →
        s.faults.sources[i].level ≤ popped.level) →
      exec (.returnLevel b x e) s = .next (answeredWith back .done [] false (s.setFaults popped))) ∧
    (∀ i : SourceId, 0 < s.faults.level → ArbiterInv s.faults → s.faults.sources[i].isPending = true →
      popped.level < s.faults.sources[i].level →
      (∀ j : SourceId, s.faults.sources[j].isPending = true → s.faults.sources[j].level < s.faults.sources[i].level ∨
        (s.faults.sources[j].level = s.faults.sources[i].level ∧ i ≤ j)) →
      ∃ t, exec (.returnLevel b x e) s = .next (answeredWith back .done [] false t) ∧
        t.faults.current = some ⟨s.faults.sources[i].level, i, s.faults.sources[i].reaction⟩ ∧
        t.faults.stack = s.faults.stack ∧ t.faults.sources = s.faults.sources ∧ SameTables s t)

/-- RESET_RUNTIME: BAD_STATE while a head is in use. Else every block takes its runtime values. Each head is as after
power-on reset but for its tables and parameters and the ramp-down rates in force (R3, R34, R52); the comparators
are disabled, at head A, step 0 (R16); the arm lifts unless it is PARKED, with its demand set, start request,
counters, timeout mark, continuation, leg, sample report and directive count empty, and its segment, last command
and pad profile kept (R70, R100); no owner, claim or flow, each delay line full of zeros (R108); every channel
stopped; every status clear, no response. The tables, the parameters, the ring and the inputs stay (R189). -/
def Obligations.ResetRuntimeResets : Prop :=
  ∀ (b : Byte) (x : BitVec 16) (e : Envelope) (s : State), Executed s e → e.length.toNat ≤ 48 →
    let r := recordWith e 11 b x
    ((s.headA.mode.inUse = true ∨ s.headB.mode.inUse = true) →
      exec (.resetRuntime b x e) s = .next (answeredWith r .badState [] false s)) ∧
    (s.headA.mode.inUse = false → s.headB.mode.inUse = false →
      ∃ t, exec (.resetRuntime b x e) s = .next (answeredWith r .done [] false t) ∧ SameTables s t ∧
        t.ring = s.ring ∧ t.inputs = s.inputs ∧ t.pending = s.pending ∧ t.address = s.address ∧
        (∀ h : Head, (t.head h).mode = .idle ∧ (t.head h).current = none ∧ (t.head h).pendingStep = none ∧
          (t.head h).timer = 0 ∧ (t.head h).loopCounter = 0 ∧ (t.head h).causes = HoldCauses.none ∧
          (t.head h).ventLevel = 0 ∧ (t.head h).summary = none ∧ (t.head h).endCause = none ∧
          (t.head h).endpoint = false ∧ (t.head h).stepsExecuted = 0 ∧ (t.head h).cappedSteps = 0 ∧
          (t.head h).waferCycles = 0 ∧ (t.head h).condUnavailable = false ∧ (t.head h).dirCount = none ∧
          (t.head h).outcome = none ∧ (∀ k : Fin 7, (t.head h).stepAcc[k] = 0 ∧ (t.head h).waferAcc[k] = 0) ∧
          ∀ z : Zone, (t.head h).zones[z] = ⟨0, (s.head h).zoneConf[z].rampRate, 0, 0, false, false, 0, 0, false⟩) ∧
        (∀ k : Fin 2, t.holdPoints[k] = ⟨false, .a, 0⟩) ∧
        t.cond.dwell = 0 ∧ t.cond.traverse = 0 ∧ t.cond.interval = 0 ∧ t.cond.timeoutMark = false ∧
        t.cond.cont = .none ∧ t.cond.leg = none ∧ t.cond.outcome = none ∧
        t.slurry.waitA = none ∧ t.slurry.waitB = none ∧ t.slurry.undecA = none ∧ t.slurry.undecB = none ∧
        t.slurry.outcome = none ∧
        t.cond.mode = (if s.cond.mode = .parked then .parked else .lifting) ∧ t.cond.demand = Parties.empty ∧
        t.cond.startReq = false ∧ t.cond.seq = 0 ∧ t.cond.pendingSample = none ∧ t.cond.stagedSample = none ∧
        t.cond.dirCount = none ∧ t.cond.profile = s.cond.profile ∧ t.cond.lastCmd = s.cond.lastCmd ∧
        t.cond.current = s.cond.current ∧ t.slurry.blend = none ∧ t.slurry.owners = Parties.empty ∧
        t.slurry.presence = 0 ∧ t.slurry.dirCount = none ∧
        (∀ c : Channel, t.slurry.flows[c] = ⟨0, List.replicate s.slurry.channels[c].delay 0, 0, false, 0⟩ ∧
          t.pulse.ch[c] = ⟨false, false, 0, 0, 0, 0, false⟩) ∧ t.pulse.supply = false ∧
        t.faults.current = none ∧ t.faults.stack = [] ∧ ∀ i : SourceId, (t.faults.sources[i]).status = false)

/-- What a WRITE_ENTRY accepts, field by field: every field within its range, and the checks across fields, the zero
diagonal, the limits of a zone, no pad range for ZR, the trigger set of a STEPPED program, the ratio sum 256, the fixed
sources. An absent loop's target byte has no range (notes/assumptions/22.md). (R1, R2, R31, R32, R67, R68, R105, R106,
R126, R150, R151, R173, R185.)
What it accepts is what a READ_ENTRY of the entry answers, byte for byte, in every layout of section
10.11; an absent loop's target byte reads as zero (notes/assumptions/22.md), an empty slot map entry as zeros. The on
and off bytes of CHANNEL and SOURCE are the model's choice (notes/assumptions/40.md). -/
def Obligations.EntriesReadBackAsWritten : Prop :=
  ∀ d : List Byte, d.length = 48 →
    let b (k : Nat) : Nat := byteAt d k
    let w (k : Nat) : Nat := le16 d k
    let coefficient (j : Fin 7) : Int := signedOf 16 (le16 d (2 * j.val))
    let noRange : Prop := b 12 = 0xFF ∧ b 13 = 0xFF
    (stepDataOk d = true ↔
      (∀ z : Zone, w (2 * z.val) ≤ 12000 ∧ 1 ≤ w (16 + 2 * z.val) ∧ w (16 + 2 * z.val) ≤ 2000) ∧
      1 ≤ le32 d 32 ∧ le32 d 32 ≤ 1000000 ∧ b 36 ≤ 3 ∧ b 37 ≤ 1 ∧ le32 d 38 ≤ 1000000 ∧ b 42 ≤ 7 ∧
      (b 43 ≤ 15 ∨ b 43 = 0xFE ∨ b 43 = 0xFF) ∧ b 44 ≤ 2 ∧ b 46 ≤ 250 ∧ (b 46 ≠ 0 → b 45 ≤ 63)) ∧
    (∀ row : Nat, couplingDataOk row d = true ↔
      ∀ j : Fin 7, -1024 ≤ coefficient j ∧ coefficient j ≤ 1024 ∧ (j.val = row → coefficient j = 0)) ∧
    (∀ z : Zone, zoneDataOk z.val d = true ↔
      w 0 ≤ w 2 ∧ w 4 ≤ w 2 ∧ w 2 ≤ 12000 ∧ 1 ≤ w 6 ∧ w 6 ≤ 2000 ∧ w 8 ≤ 12000 ∧ 1 ≤ w 10 ∧
      (noRange ∨ (z.val < 7 ∧ b 12 ≤ b 13 ∧ b 13 ≤ 31))) ∧
    (segmentDataOk d = true ↔
      w 0 ≤ 2000 ∧ w 2 ≤ 2000 ∧ 1 ≤ w 4 ∧ 1 ≤ w 6 ∧ w 6 ≤ 1000 ∧ b 8 ≤ 200) ∧
    (programDataOk d = true ↔
      b 0 ≤ 31 ∧ b 1 ≤ 31 ∧ b 2 ≤ 3 ∧ b 3 ≤ 7 ∧ 1 ≤ w 4 ∧ w 6 ≤ 2000 ∧ w 8 ≤ 2000 ∧ 1 ≤ w 10 ∧ b 12 ≤ 1 ∧
      (b 2 = 3 → b 3 ≠ 0)) ∧
    (blendDataOk d = true ↔
      w 0 ≤ 1000 ∧ (∀ c : Channel, w (2 + 2 * c.val) ≤ 256) ∧ w 2 + w 4 + w 6 + w 8 = 256) ∧
    (channelDataOk d = true ↔
      b 0 ≤ 1 ∧ b 1 ≤ 5 ∧ b 2 ≤ 3 ∧ b 3 ≤ 1 ∧ b 4 ≤ 1 ∧ 1 ≤ w 6 ∧ w 6 ≤ 1000 ∧ b 8 ≤ 1 ∧ w 9 ≤ 1000 ∧
      1 ≤ w 11) ∧
    (∀ own others, slotEntryOk own others d = true ↔ b 0 = 0 ∨
      (b 0 ≤ 40 ∧ 1 ≤ b 1 ∧ b 1 ≤ 62 ∧ b 1 ≠ own.toNat ∧
        ∀ o ∈ others, o.binding.code ≠ b 0 ∧ ¬ (o.node.toNat = b 1 ∧ o.kind.toNat = b 2))) ∧
    (∀ i : SourceId, sourceDataOk i.val d = true ↔
      2 ≤ i.val ∧ b 0 ≤ 1 ∧ b 1 ≤ 6 ∧ 1 ≤ b 2 ∧ b 2 ≤ 4) ∧
    (stepDataOk d = true → byteAt d 46 ≠ 0 → stepData (stepOfData d) = d.take 47) ∧
    (stepDataOk d = true → byteAt d 46 = 0 → stepData (stepOfData d) = d.take 45 ++ [0, 0]) ∧
    (∀ row, couplingDataOk row d = true → couplingData (couplingOfData d) = d.take 14) ∧
    (∀ i, zoneDataOk i d = true → zoneData (zoneOfData d) = d.take 14) ∧
    (segmentDataOk d = true → segmentData (segmentOfData d) = d.take 9) ∧
    (programDataOk d = true → programData (programOfData d) = d.take 13) ∧
    (blendDataOk d = true → blendData (blendOfData d) = d.take 10) ∧
    (channelDataOk d = true → channelData (channelOfData d) = d.take 13) ∧
    (∀ own others, slotEntryOk own others d = true → byteAt d 0 ≠ 0 →
      slotEntryData (slotEntryOfData d) = d.take 3) ∧
    (∀ own others, byteAt d 0 = 0 → slotEntryOk own others d = true ∧ slotEntryOfData d = none ∧
      slotEntryData (slotEntryOfData d) = [0, 0, 0]) ∧
    (∀ i (x : SourceState), sourceDataOk i d = true → sourceData (x.rewrite d) = d.take 3)
end

