-- ==== Sys2Proof/Laws/State.lean ====
section
/-! SUPPORT. One lemma per field per update of State, so that no later proof unfolds a record update. -/

namespace Sys2Proof.Machine

namespace State

@[simp] theorem setCond_pending (s : State) (x : Conditioner) : (s.setCond x).pending = s.pending := rfl
@[simp] theorem setCond_address (s : State) (x : Conditioner) : (s.setCond x).address = s.address := rfl
@[simp] theorem setCond_ring (s : State) (x : Conditioner) : (s.setCond x).ring = s.ring := rfl
@[simp] theorem setCond_headA (s : State) (x : Conditioner) : (s.setCond x).headA = s.headA := rfl
@[simp] theorem setCond_headB (s : State) (x : Conditioner) : (s.setCond x).headB = s.headB := rfl
@[simp] theorem setCond_holdPoints (s : State) (x : Conditioner) : (s.setCond x).holdPoints = s.holdPoints := rfl
@[simp] theorem setCond_cond (s : State) (x : Conditioner) : (s.setCond x).cond = x := rfl
@[simp] theorem setCond_slurry (s : State) (x : Conditioner) : (s.setCond x).slurry = s.slurry := rfl
@[simp] theorem setCond_pulse (s : State) (x : Conditioner) : (s.setCond x).pulse = s.pulse := rfl
@[simp] theorem setCond_inputs (s : State) (x : Conditioner) : (s.setCond x).inputs = s.inputs := rfl
@[simp] theorem setCond_faults (s : State) (x : Conditioner) : (s.setCond x).faults = s.faults := rfl
@[simp] theorem setCond_due (s : State) (x : Conditioner) : (s.setCond x).due = s.due := rfl
@[simp] theorem setCond_outOrders (s : State) (x : Conditioner) : (s.setCond x).outOrders = s.outOrders := rfl
@[simp] theorem setCond_retOrders (s : State) (x : Conditioner) : (s.setCond x).retOrders = s.retOrders := rfl
@[simp] theorem setCond_free (s : State) (x : Conditioner) : (s.setCond x).free = s.free := rfl
@[simp] theorem setCond_head (s : State) (x : Conditioner) (h : Head) : (s.setCond x).head h = s.head h := by cases h <;> rfl

@[simp] theorem setSlurry_pending (s : State) (x : Slurry) : (s.setSlurry x).pending = s.pending := rfl
@[simp] theorem setSlurry_address (s : State) (x : Slurry) : (s.setSlurry x).address = s.address := rfl
@[simp] theorem setSlurry_ring (s : State) (x : Slurry) : (s.setSlurry x).ring = s.ring := rfl
@[simp] theorem setSlurry_headA (s : State) (x : Slurry) : (s.setSlurry x).headA = s.headA := rfl
@[simp] theorem setSlurry_headB (s : State) (x : Slurry) : (s.setSlurry x).headB = s.headB := rfl
@[simp] theorem setSlurry_holdPoints (s : State) (x : Slurry) : (s.setSlurry x).holdPoints = s.holdPoints := rfl
@[simp] theorem setSlurry_cond (s : State) (x : Slurry) : (s.setSlurry x).cond = s.cond := rfl
@[simp] theorem setSlurry_slurry (s : State) (x : Slurry) : (s.setSlurry x).slurry = x := rfl
@[simp] theorem setSlurry_pulse (s : State) (x : Slurry) : (s.setSlurry x).pulse = s.pulse := rfl
@[simp] theorem setSlurry_inputs (s : State) (x : Slurry) : (s.setSlurry x).inputs = s.inputs := rfl
@[simp] theorem setSlurry_faults (s : State) (x : Slurry) : (s.setSlurry x).faults = s.faults := rfl
@[simp] theorem setSlurry_due (s : State) (x : Slurry) : (s.setSlurry x).due = s.due := rfl
@[simp] theorem setSlurry_outOrders (s : State) (x : Slurry) : (s.setSlurry x).outOrders = s.outOrders := rfl
@[simp] theorem setSlurry_retOrders (s : State) (x : Slurry) : (s.setSlurry x).retOrders = s.retOrders := rfl
@[simp] theorem setSlurry_free (s : State) (x : Slurry) : (s.setSlurry x).free = s.free := rfl
@[simp] theorem setSlurry_head (s : State) (x : Slurry) (h : Head) : (s.setSlurry x).head h = s.head h := by cases h <;> rfl

@[simp] theorem setPulse_pending (s : State) (x : Pulse) : (s.setPulse x).pending = s.pending := rfl
@[simp] theorem setPulse_address (s : State) (x : Pulse) : (s.setPulse x).address = s.address := rfl
@[simp] theorem setPulse_ring (s : State) (x : Pulse) : (s.setPulse x).ring = s.ring := rfl
@[simp] theorem setPulse_headA (s : State) (x : Pulse) : (s.setPulse x).headA = s.headA := rfl
@[simp] theorem setPulse_headB (s : State) (x : Pulse) : (s.setPulse x).headB = s.headB := rfl
@[simp] theorem setPulse_holdPoints (s : State) (x : Pulse) : (s.setPulse x).holdPoints = s.holdPoints := rfl
@[simp] theorem setPulse_cond (s : State) (x : Pulse) : (s.setPulse x).cond = s.cond := rfl
@[simp] theorem setPulse_slurry (s : State) (x : Pulse) : (s.setPulse x).slurry = s.slurry := rfl
@[simp] theorem setPulse_pulse (s : State) (x : Pulse) : (s.setPulse x).pulse = x := rfl
@[simp] theorem setPulse_inputs (s : State) (x : Pulse) : (s.setPulse x).inputs = s.inputs := rfl
@[simp] theorem setPulse_faults (s : State) (x : Pulse) : (s.setPulse x).faults = s.faults := rfl
@[simp] theorem setPulse_due (s : State) (x : Pulse) : (s.setPulse x).due = s.due := rfl
@[simp] theorem setPulse_outOrders (s : State) (x : Pulse) : (s.setPulse x).outOrders = s.outOrders := rfl
@[simp] theorem setPulse_retOrders (s : State) (x : Pulse) : (s.setPulse x).retOrders = s.retOrders := rfl
@[simp] theorem setPulse_free (s : State) (x : Pulse) : (s.setPulse x).free = s.free := rfl
@[simp] theorem setPulse_head (s : State) (x : Pulse) (h : Head) : (s.setPulse x).head h = s.head h := by cases h <;> rfl

@[simp] theorem setFaults_pending (s : State) (x : Arbiter) : (s.setFaults x).pending = s.pending := rfl
@[simp] theorem setFaults_address (s : State) (x : Arbiter) : (s.setFaults x).address = s.address := rfl
@[simp] theorem setFaults_ring (s : State) (x : Arbiter) : (s.setFaults x).ring = s.ring := rfl
@[simp] theorem setFaults_headA (s : State) (x : Arbiter) : (s.setFaults x).headA = s.headA := rfl
@[simp] theorem setFaults_headB (s : State) (x : Arbiter) : (s.setFaults x).headB = s.headB := rfl
@[simp] theorem setFaults_holdPoints (s : State) (x : Arbiter) : (s.setFaults x).holdPoints = s.holdPoints := rfl
@[simp] theorem setFaults_cond (s : State) (x : Arbiter) : (s.setFaults x).cond = s.cond := rfl
@[simp] theorem setFaults_slurry (s : State) (x : Arbiter) : (s.setFaults x).slurry = s.slurry := rfl
@[simp] theorem setFaults_pulse (s : State) (x : Arbiter) : (s.setFaults x).pulse = s.pulse := rfl
@[simp] theorem setFaults_inputs (s : State) (x : Arbiter) : (s.setFaults x).inputs = s.inputs := rfl
@[simp] theorem setFaults_faults (s : State) (x : Arbiter) : (s.setFaults x).faults = x := rfl
@[simp] theorem setFaults_due (s : State) (x : Arbiter) : (s.setFaults x).due = s.due := rfl
@[simp] theorem setFaults_outOrders (s : State) (x : Arbiter) : (s.setFaults x).outOrders = s.outOrders := rfl
@[simp] theorem setFaults_retOrders (s : State) (x : Arbiter) : (s.setFaults x).retOrders = s.retOrders := rfl
@[simp] theorem setFaults_free (s : State) (x : Arbiter) : (s.setFaults x).free = s.free := rfl
@[simp] theorem setFaults_head (s : State) (x : Arbiter) (h : Head) : (s.setFaults x).head h = s.head h := by cases h <;> rfl

@[simp] theorem setRing_pending (s : State) (x : Ring) : (s.setRing x).pending = s.pending := rfl
@[simp] theorem setRing_address (s : State) (x : Ring) : (s.setRing x).address = s.address := rfl
@[simp] theorem setRing_ring (s : State) (x : Ring) : (s.setRing x).ring = x := rfl
@[simp] theorem setRing_headA (s : State) (x : Ring) : (s.setRing x).headA = s.headA := rfl
@[simp] theorem setRing_headB (s : State) (x : Ring) : (s.setRing x).headB = s.headB := rfl
@[simp] theorem setRing_holdPoints (s : State) (x : Ring) : (s.setRing x).holdPoints = s.holdPoints := rfl
@[simp] theorem setRing_cond (s : State) (x : Ring) : (s.setRing x).cond = s.cond := rfl
@[simp] theorem setRing_slurry (s : State) (x : Ring) : (s.setRing x).slurry = s.slurry := rfl
@[simp] theorem setRing_pulse (s : State) (x : Ring) : (s.setRing x).pulse = s.pulse := rfl
@[simp] theorem setRing_inputs (s : State) (x : Ring) : (s.setRing x).inputs = s.inputs := rfl
@[simp] theorem setRing_faults (s : State) (x : Ring) : (s.setRing x).faults = s.faults := rfl
@[simp] theorem setRing_due (s : State) (x : Ring) : (s.setRing x).due = s.due := rfl
@[simp] theorem setRing_outOrders (s : State) (x : Ring) : (s.setRing x).outOrders = s.outOrders := rfl
@[simp] theorem setRing_retOrders (s : State) (x : Ring) : (s.setRing x).retOrders = s.retOrders := rfl
@[simp] theorem setRing_free (s : State) (x : Ring) : (s.setRing x).free = s.free := rfl
@[simp] theorem setRing_head (s : State) (x : Ring) (h : Head) : (s.setRing x).head h = s.head h := by cases h <;> rfl

@[simp] theorem setInput_pending (s : State) (n : InputId) (x : Input) : (s.setInput n x).pending = s.pending := rfl
@[simp] theorem setInput_address (s : State) (n : InputId) (x : Input) : (s.setInput n x).address = s.address := rfl
@[simp] theorem setInput_ring (s : State) (n : InputId) (x : Input) : (s.setInput n x).ring = s.ring := rfl
@[simp] theorem setInput_headA (s : State) (n : InputId) (x : Input) : (s.setInput n x).headA = s.headA := rfl
@[simp] theorem setInput_headB (s : State) (n : InputId) (x : Input) : (s.setInput n x).headB = s.headB := rfl
@[simp] theorem setInput_holdPoints (s : State) (n : InputId) (x : Input) : (s.setInput n x).holdPoints = s.holdPoints := rfl
@[simp] theorem setInput_cond (s : State) (n : InputId) (x : Input) : (s.setInput n x).cond = s.cond := rfl
@[simp] theorem setInput_slurry (s : State) (n : InputId) (x : Input) : (s.setInput n x).slurry = s.slurry := rfl
@[simp] theorem setInput_pulse (s : State) (n : InputId) (x : Input) : (s.setInput n x).pulse = s.pulse := rfl
@[simp] theorem setInput_inputs (s : State) (n : InputId) (x : Input) : (s.setInput n x).inputs = s.inputs.set n x := rfl
@[simp] theorem setInput_faults (s : State) (n : InputId) (x : Input) : (s.setInput n x).faults = s.faults := rfl
@[simp] theorem setInput_due (s : State) (n : InputId) (x : Input) : (s.setInput n x).due = s.due := rfl
@[simp] theorem setInput_outOrders (s : State) (n : InputId) (x : Input) : (s.setInput n x).outOrders = s.outOrders := rfl
@[simp] theorem setInput_retOrders (s : State) (n : InputId) (x : Input) : (s.setInput n x).retOrders = s.retOrders := rfl
@[simp] theorem setInput_free (s : State) (n : InputId) (x : Input) : (s.setInput n x).free = s.free := rfl
@[simp] theorem setInput_head (s : State) (n : InputId) (x : Input) (h : Head) : (s.setInput n x).head h = s.head h := by cases h <;> rfl

@[simp] theorem setDue_pending (s : State) (x : List Due) : (s.setDue x).pending = s.pending := rfl
@[simp] theorem setDue_address (s : State) (x : List Due) : (s.setDue x).address = s.address := rfl
@[simp] theorem setDue_ring (s : State) (x : List Due) : (s.setDue x).ring = s.ring := rfl
@[simp] theorem setDue_headA (s : State) (x : List Due) : (s.setDue x).headA = s.headA := rfl
@[simp] theorem setDue_headB (s : State) (x : List Due) : (s.setDue x).headB = s.headB := rfl
@[simp] theorem setDue_holdPoints (s : State) (x : List Due) : (s.setDue x).holdPoints = s.holdPoints := rfl
@[simp] theorem setDue_cond (s : State) (x : List Due) : (s.setDue x).cond = s.cond := rfl
@[simp] theorem setDue_slurry (s : State) (x : List Due) : (s.setDue x).slurry = s.slurry := rfl
@[simp] theorem setDue_pulse (s : State) (x : List Due) : (s.setDue x).pulse = s.pulse := rfl
@[simp] theorem setDue_inputs (s : State) (x : List Due) : (s.setDue x).inputs = s.inputs := rfl
@[simp] theorem setDue_faults (s : State) (x : List Due) : (s.setDue x).faults = s.faults := rfl
@[simp] theorem setDue_due (s : State) (x : List Due) : (s.setDue x).due = x := rfl
@[simp] theorem setDue_outOrders (s : State) (x : List Due) : (s.setDue x).outOrders = s.outOrders := rfl
@[simp] theorem setDue_retOrders (s : State) (x : List Due) : (s.setDue x).retOrders = s.retOrders := rfl
@[simp] theorem setDue_free (s : State) (x : List Due) : (s.setDue x).free = s.free := rfl
@[simp] theorem setDue_head (s : State) (x : List Due) (h : Head) : (s.setDue x).head h = s.head h := by cases h <;> rfl

@[simp] theorem setHoldPoints_pending (s : State) (x : Vector HoldPoint 2) : (s.setHoldPoints x).pending = s.pending := rfl
@[simp] theorem setHoldPoints_address (s : State) (x : Vector HoldPoint 2) : (s.setHoldPoints x).address = s.address := rfl
@[simp] theorem setHoldPoints_ring (s : State) (x : Vector HoldPoint 2) : (s.setHoldPoints x).ring = s.ring := rfl
@[simp] theorem setHoldPoints_headA (s : State) (x : Vector HoldPoint 2) : (s.setHoldPoints x).headA = s.headA := rfl
@[simp] theorem setHoldPoints_headB (s : State) (x : Vector HoldPoint 2) : (s.setHoldPoints x).headB = s.headB := rfl
@[simp] theorem setHoldPoints_holdPoints (s : State) (x : Vector HoldPoint 2) : (s.setHoldPoints x).holdPoints = x := rfl
@[simp] theorem setHoldPoints_cond (s : State) (x : Vector HoldPoint 2) : (s.setHoldPoints x).cond = s.cond := rfl
@[simp] theorem setHoldPoints_slurry (s : State) (x : Vector HoldPoint 2) : (s.setHoldPoints x).slurry = s.slurry := rfl
@[simp] theorem setHoldPoints_pulse (s : State) (x : Vector HoldPoint 2) : (s.setHoldPoints x).pulse = s.pulse := rfl
@[simp] theorem setHoldPoints_inputs (s : State) (x : Vector HoldPoint 2) : (s.setHoldPoints x).inputs = s.inputs := rfl
@[simp] theorem setHoldPoints_faults (s : State) (x : Vector HoldPoint 2) : (s.setHoldPoints x).faults = s.faults := rfl
@[simp] theorem setHoldPoints_due (s : State) (x : Vector HoldPoint 2) : (s.setHoldPoints x).due = s.due := rfl
@[simp] theorem setHoldPoints_outOrders (s : State) (x : Vector HoldPoint 2) : (s.setHoldPoints x).outOrders = s.outOrders := rfl
@[simp] theorem setHoldPoints_retOrders (s : State) (x : Vector HoldPoint 2) : (s.setHoldPoints x).retOrders = s.retOrders := rfl
@[simp] theorem setHoldPoints_free (s : State) (x : Vector HoldPoint 2) : (s.setHoldPoints x).free = s.free := rfl
@[simp] theorem setHoldPoints_head (s : State) (x : Vector HoldPoint 2) (h : Head) : (s.setHoldPoints x).head h = s.head h := by cases h <;> rfl

@[simp] theorem setPending_pending (s : State) (x : List Instr) : (s.setPending x).pending = x := rfl
@[simp] theorem setPending_address (s : State) (x : List Instr) : (s.setPending x).address = s.address := rfl
@[simp] theorem setPending_ring (s : State) (x : List Instr) : (s.setPending x).ring = s.ring := rfl
@[simp] theorem setPending_headA (s : State) (x : List Instr) : (s.setPending x).headA = s.headA := rfl
@[simp] theorem setPending_headB (s : State) (x : List Instr) : (s.setPending x).headB = s.headB := rfl
@[simp] theorem setPending_holdPoints (s : State) (x : List Instr) : (s.setPending x).holdPoints = s.holdPoints := rfl
@[simp] theorem setPending_cond (s : State) (x : List Instr) : (s.setPending x).cond = s.cond := rfl
@[simp] theorem setPending_slurry (s : State) (x : List Instr) : (s.setPending x).slurry = s.slurry := rfl
@[simp] theorem setPending_pulse (s : State) (x : List Instr) : (s.setPending x).pulse = s.pulse := rfl
@[simp] theorem setPending_inputs (s : State) (x : List Instr) : (s.setPending x).inputs = s.inputs := rfl
@[simp] theorem setPending_faults (s : State) (x : List Instr) : (s.setPending x).faults = s.faults := rfl
@[simp] theorem setPending_due (s : State) (x : List Instr) : (s.setPending x).due = s.due := rfl
@[simp] theorem setPending_outOrders (s : State) (x : List Instr) : (s.setPending x).outOrders = s.outOrders := rfl
@[simp] theorem setPending_retOrders (s : State) (x : List Instr) : (s.setPending x).retOrders = s.retOrders := rfl
@[simp] theorem setPending_free (s : State) (x : List Instr) : (s.setPending x).free = s.free := rfl
@[simp] theorem setPending_head (s : State) (x : List Instr) (h : Head) : (s.setPending x).head h = s.head h := by cases h <;> rfl

@[simp] theorem setHead_pending (s : State) (h : Head) (x : HeadUnit) : (s.setHead h x).pending = s.pending := by
  cases h <;> rfl
@[simp] theorem modHead_pending (s : State) (h : Head) (f : HeadUnit → HeadUnit) : (s.modHead h f).pending = s.pending := by
  cases h <;> rfl
@[simp] theorem setHead_address (s : State) (h : Head) (x : HeadUnit) : (s.setHead h x).address = s.address := by
  cases h <;> rfl
@[simp] theorem modHead_address (s : State) (h : Head) (f : HeadUnit → HeadUnit) : (s.modHead h f).address = s.address := by
  cases h <;> rfl
@[simp] theorem setHead_ring (s : State) (h : Head) (x : HeadUnit) : (s.setHead h x).ring = s.ring := by
  cases h <;> rfl
@[simp] theorem modHead_ring (s : State) (h : Head) (f : HeadUnit → HeadUnit) : (s.modHead h f).ring = s.ring := by
  cases h <;> rfl
@[simp] theorem setHead_holdPoints (s : State) (h : Head) (x : HeadUnit) : (s.setHead h x).holdPoints = s.holdPoints := by
  cases h <;> rfl
@[simp] theorem modHead_holdPoints (s : State) (h : Head) (f : HeadUnit → HeadUnit) : (s.modHead h f).holdPoints = s.holdPoints := by
  cases h <;> rfl
@[simp] theorem setHead_cond (s : State) (h : Head) (x : HeadUnit) : (s.setHead h x).cond = s.cond := by
  cases h <;> rfl
@[simp] theorem modHead_cond (s : State) (h : Head) (f : HeadUnit → HeadUnit) : (s.modHead h f).cond = s.cond := by
  cases h <;> rfl
@[simp] theorem setHead_slurry (s : State) (h : Head) (x : HeadUnit) : (s.setHead h x).slurry = s.slurry := by
  cases h <;> rfl
@[simp] theorem modHead_slurry (s : State) (h : Head) (f : HeadUnit → HeadUnit) : (s.modHead h f).slurry = s.slurry := by
  cases h <;> rfl
@[simp] theorem setHead_pulse (s : State) (h : Head) (x : HeadUnit) : (s.setHead h x).pulse = s.pulse := by
  cases h <;> rfl
@[simp] theorem modHead_pulse (s : State) (h : Head) (f : HeadUnit → HeadUnit) : (s.modHead h f).pulse = s.pulse := by
  cases h <;> rfl
@[simp] theorem setHead_inputs (s : State) (h : Head) (x : HeadUnit) : (s.setHead h x).inputs = s.inputs := by
  cases h <;> rfl
@[simp] theorem modHead_inputs (s : State) (h : Head) (f : HeadUnit → HeadUnit) : (s.modHead h f).inputs = s.inputs := by
  cases h <;> rfl
@[simp] theorem setHead_faults (s : State) (h : Head) (x : HeadUnit) : (s.setHead h x).faults = s.faults := by
  cases h <;> rfl
@[simp] theorem modHead_faults (s : State) (h : Head) (f : HeadUnit → HeadUnit) : (s.modHead h f).faults = s.faults := by
  cases h <;> rfl
@[simp] theorem setHead_due (s : State) (h : Head) (x : HeadUnit) : (s.setHead h x).due = s.due := by
  cases h <;> rfl
@[simp] theorem modHead_due (s : State) (h : Head) (f : HeadUnit → HeadUnit) : (s.modHead h f).due = s.due := by
  cases h <;> rfl
@[simp] theorem setHead_outOrders (s : State) (h : Head) (x : HeadUnit) : (s.setHead h x).outOrders = s.outOrders := by
  cases h <;> rfl
@[simp] theorem modHead_outOrders (s : State) (h : Head) (f : HeadUnit → HeadUnit) : (s.modHead h f).outOrders = s.outOrders := by
  cases h <;> rfl
@[simp] theorem setHead_retOrders (s : State) (h : Head) (x : HeadUnit) : (s.setHead h x).retOrders = s.retOrders := by
  cases h <;> rfl
@[simp] theorem modHead_retOrders (s : State) (h : Head) (f : HeadUnit → HeadUnit) : (s.modHead h f).retOrders = s.retOrders := by
  cases h <;> rfl
@[simp] theorem setHead_free (s : State) (h : Head) (x : HeadUnit) : (s.setHead h x).free = s.free := by
  cases h <;> rfl
@[simp] theorem modHead_free (s : State) (h : Head) (f : HeadUnit → HeadUnit) : (s.modHead h f).free = s.free := by
  cases h <;> rfl

@[simp] theorem head_a (s : State) : s.head .a = s.headA := rfl
@[simp] theorem head_b (s : State) : s.head .b = s.headB := rfl
@[simp] theorem setHead_a (s : State) (x : HeadUnit) : (s.setHead .a x).headA = x := rfl
@[simp] theorem setHead_b (s : State) (x : HeadUnit) : (s.setHead .b x).headB = x := rfl

/-- The head written reads as written. -/
@[simp] theorem head_setHead_same (s : State) (h : Head) (x : HeadUnit) : (s.setHead h x).head h = x := by
  cases h <;> rfl

/-- The other head reads as before. -/
theorem head_setHead_other (s : State) (h k : Head) (x : HeadUnit) (hk : k ≠ h) :
    (s.setHead h x).head k = s.head k := by
  cases h <;> cases k <;> first | rfl | exact absurd rfl hk

@[simp] theorem head_modHead_same (s : State) (h : Head) (f : HeadUnit → HeadUnit) :
    (s.modHead h f).head h = f (s.head h) := by cases h <;> rfl

theorem head_modHead_other (s : State) (h k : Head) (f : HeadUnit → HeadUnit) (hk : k ≠ h) :
    (s.modHead h f).head k = s.head k := head_setHead_other s h k _ hk

/-- Two changes of one head are one change. -/
@[simp] theorem modHead_modHead (s : State) (h : Head) (f g : HeadUnit → HeadUnit) :
    (s.modHead h f).modHead h g = s.modHead h (fun u => g (f u)) := by cases h <;> rfl

@[simp] theorem setHead_setHead (s : State) (h : Head) (x y : HeadUnit) :
    (s.setHead h x).setHead h y = s.setHead h y := by cases h <;> rfl

@[simp] theorem setCond_setCond (s : State) (x y : Conditioner) : (s.setCond x).setCond y = s.setCond y := rfl
@[simp] theorem setSlurry_setSlurry (s : State) (x y : Slurry) : (s.setSlurry x).setSlurry y = s.setSlurry y := rfl
@[simp] theorem setPulse_setPulse (s : State) (x y : Pulse) : (s.setPulse x).setPulse y = s.setPulse y := rfl
@[simp] theorem setFaults_setFaults (s : State) (x y : Arbiter) : (s.setFaults x).setFaults y = s.setFaults y := rfl
@[simp] theorem setRing_setRing (s : State) (x y : Ring) : (s.setRing x).setRing y = s.setRing y := rfl

/-- A field written with its own value changes nothing. -/
@[simp] theorem setCond_self (s : State) : s.setCond s.cond = s := rfl
@[simp] theorem setSlurry_self (s : State) : s.setSlurry s.slurry = s := rfl
@[simp] theorem setPulse_self (s : State) : s.setPulse s.pulse = s := rfl
@[simp] theorem setFaults_self (s : State) : s.setFaults s.faults = s := rfl
@[simp] theorem setRing_self (s : State) : s.setRing s.ring = s := rfl
@[simp] theorem setHead_self (s : State) (h : Head) : s.setHead h (s.head h) = s := by cases h <;> rfl

end State

end Sys2Proof.Machine
end

