-- ==== Sys2Proof/Laws/Ops.lean ====
section
/-! SUPPORT. What the shared operations can do, said once for each: what they leave as it was, and the cases of
the taking rule, of a frame's arrival and of the hand-over of a reaction. -/

namespace Sys2Proof.Machine

/-! ### The relation of unchanged surroundings -/

theorem SameSurroundings.refl (s : State) : SameSurroundings s s := ⟨rfl, rfl, rfl, rfl, rfl, rfl, rfl, rfl⟩

theorem SameSurroundings.trans {s t u : State} (h : SameSurroundings s t) (k : SameSurroundings t u) :
    SameSurroundings s u := by
  obtain ⟨a, b, c, d, e, f, g, i⟩ := h
  obtain ⟨a', b', c', d', e', f', g', i'⟩ := k
  exact ⟨a'.trans a, b'.trans b, c'.trans c, d'.trans d, e'.trans e, f'.trans f, g'.trans g, i'.trans i⟩

theorem same_setHead (s : State) (h : Head) (x : HeadUnit) : SameSurroundings s (s.setHead h x) := by
  cases h <;> exact .refl _

theorem same_modHead (s : State) (h : Head) (f : HeadUnit → HeadUnit) : SameSurroundings s (s.modHead h f) :=
  same_setHead s h _

theorem same_setCond (s : State) (x : Conditioner) : SameSurroundings s (s.setCond x) := .refl _
theorem same_setSlurry (s : State) (x : Slurry) : SameSurroundings s (s.setSlurry x) := .refl _
theorem same_setPulse (s : State) (x : Pulse) : SameSurroundings s (s.setPulse x) := .refl _
theorem same_setFaults (s : State) (x : Arbiter) : SameSurroundings s (s.setFaults x) := .refl _
theorem same_setDue (s : State) (x : List Due) : SameSurroundings s (s.setDue x) := .refl _

/-- A condition that decides between two operations. -/
theorem same_ite {c : Prop} [Decidable c] {s t u : State} (h : SameSurroundings s t) (k : SameSurroundings s u) :
    SameSurroundings s (if c then t else u) := by split <;> assumption

/-! ### Pulse unit, blend, owner set -/

/-- The re-evaluation of the running conditions reaches the channels alone. -/
theorem refreshPulse_eq (s : State) :
    refreshPulse s = s.setPulse { s.pulse with
      ch := Vector.ofFn fun c => (s.pulse.ch[c]).refresh s.slurry.channels[c].enable s.pulse.supply } := rfl

/-- A change of the supply sets the flag and re-evaluates each channel. -/
theorem setSupply_eq (v : Bool) (s : State) :
    setSupply v s = s.setPulse
      { supply := v, ch := Vector.ofFn fun c => (s.pulse.ch[c]).refresh s.slurry.channels[c].enable v } := rfl

/-- The notice of R109 reaches the pulse unit alone. -/
theorem blendNotice_eq (b a : Option Nat) (s : State) : ∃ p, blendNotice b a s = s.setPulse p := by
  cases b <;> cases a <;> exact ⟨_, rfl⟩

/-- A write of the blend and the owner set changes them, and the pulse unit where the notice reaches it. -/
theorem setBlend_eq (b : Option Nat) (o : Parties) (s : State) :
    ∃ p, setBlend b o s = (s.setSlurry { s.slurry with blend := b, owners := o }).setPulse p :=
  blendNotice_eq _ _ _

theorem same_setBlend (b : Option Nat) (o : Parties) (s : State) : SameSurroundings s (setBlend b o s) := by
  obtain ⟨p, h⟩ := setBlend_eq b o s
  rw [h]; exact .refl _

theorem same_leaveOwnersWith (examine : State → State) (hx : ∀ t, SameSurroundings t (examine t)) (p : Party)
    (s : State) : SameSurroundings s (leaveOwnersWith examine p s) := by
  unfold leaveOwnersWith
  exact same_ite ((same_setBlend _ _ s).trans (hx _)) (.refl _)

/-! ### Conditioner -/

theorem same_markUnavailable (s : State) : SameSurroundings s (markUnavailable s) := by
  unfold markUnavailable
  dsimp only
  split <;> split <;>
    first
      | exact (same_modHead s _ _).trans (same_modHead _ _ _)
      | exact same_modHead s _ _
      | exact .refl s

theorem same_tryStart (s : State) : SameSurroundings s (tryStart s) := by
  unfold tryStart
  split
  · split
    · exact same_markUnavailable s
    · exact same_ite (same_setCond s _) (same_markUnavailable s)
  · exact .refl s

theorem same_condJoin (h : Head) (s : State) : SameSurroundings s (condJoin h s) :=
  (same_setCond s _).trans (same_tryStart _)

/-- A party's leaving reaches the conditioner alone. -/
theorem condLeave_eq (p : Party) (s : State) : condLeave p s = s.setCond (s.cond.leave p) := rfl

/-! ### Step entry and claims -/

theorem same_handBlend (examine : State → State) (hx : ∀ t, SameSurroundings t (examine t)) (h : Head)
    (f : BlendField) (s : State) : SameSurroundings s (handBlend examine h f s) := by
  cases f with
  | absent => exact .refl s
  | release => exact same_leaveOwnersWith examine hx _ s
  | index n => exact same_setSlurry s _

theorem same_handConditioning (h : Head) (f : CondField) (s : State) :
    SameSurroundings s (handConditioning h f s) := by
  cases f with
  | absent => exact .refl s
  | on => exact same_condJoin h s
  | off => exact same_setCond s _

theorem same_beginStepWith (examine : State → State) (hx : ∀ t, SameSurroundings t (examine t)) (h : Head)
    (j : Nat) (s : State) : SameSurroundings s (beginStepWith examine h j s) := by
  unfold beginStepWith
  split
  · exact .refl s
  · exact ((same_modHead s h _).trans (same_handBlend examine hx h _ _)).trans (same_handConditioning h _ _)

theorem same_returnIfFreeWith (examine : State → State) (hx : ∀ t, SameSurroundings t (examine t)) (h : Head)
    (s : State) : SameSurroundings s (returnIfFreeWith examine h s) := by
  unfold returnIfFreeWith
  split
  · dsimp only
    split
    · exact same_modHead s h _
    · exact (same_modHead s h _).trans (same_beginStepWith examine hx h _ _)
  · exact .refl s

theorem same_grantHeadWith (examine : State → State) (hx : ∀ t, SameSurroundings t (examine t)) (h : Head)
    (n : Nat) (s : State) : SameSurroundings s (grantHeadWith examine h n s) := by
  unfold grantHeadWith
  have a := (same_setBlend (some n) (s.slurry.owners.put (.head h) true) s).trans
    (same_setSlurry _ ((setBlend (some n) (s.slurry.owners.put (.head h) true) s).slurry.setWait h none))
  dsimp only
  split
  · exact a.trans ((same_modHead _ h _).trans (same_returnIfFreeWith examine hx h _))
  · exact a

theorem same_examineHeadWith (examine : State → State) (hx : ∀ t, SameSurroundings t (examine t)) (h : Head)
    (s : State) : SameSurroundings s (examineHeadWith examine h s) := by
  unfold examineHeadWith
  split
  · exact .refl s
  · exact same_ite (same_grantHeadWith examine hx h _ s) (.refl s)

theorem same_examineWith (inner : State → State) (hx : ∀ t, SameSurroundings t (inner t)) (s : State) :
    SameSurroundings s (examineWith inner s) :=
  (same_examineHeadWith inner hx .a s).trans (same_examineHeadWith inner hx .b _)

/-- The examination of R113 leaves the surroundings as they were. -/
theorem same_examine (s : State) : SameSurroundings s (examine s) :=
  same_examineWith _ (same_examineWith _ fun t => .refl t) s

theorem same_leaveOwners (p : Party) (s : State) : SameSurroundings s (leaveOwners p s) :=
  same_leaveOwnersWith examine same_examine p s

theorem same_beginStep (h : Head) (j : Nat) (s : State) : SameSurroundings s (beginStep h j s) :=
  same_beginStepWith examine same_examine h j s

theorem same_returnIfFree (h : Head) (s : State) : SameSurroundings s (returnIfFree h s) :=
  same_returnIfFreeWith examine same_examine h s

/-! ### Leaving a step, and reactions -/

theorem same_withdraw (h : Head) (s : State) : SameSurroundings s (withdraw h s) :=
  (((same_modHead s h _).trans (same_setSlurry _ _)).trans (same_leaveOwners _ _)).trans (same_setCond _ _)

theorem same_enterRampdown (cause : EndCause) (h : Head) (s : State) :
    SameSurroundings s (enterRampdown cause h s) := (same_modHead s h _).trans (same_withdraw h _)

theorem same_enterVented (level : Nat) (h : Head) (s : State) : SameSurroundings s (enterVented level h s) :=
  same_ite ((same_modHead s h _).trans (same_withdraw h _)) (same_modHead s h _)

/-- A reaction reaching a head leaves the surroundings as they were (R17). -/
theorem same_reactHead (reaction : Reaction) (level : Nat) (h : Head) (s : State) :
    SameSurroundings s (reactHead reaction level h s) := by
  cases reaction with
  | notify => exact .refl s
  | hold => exact same_ite (same_modHead s h _) (.refl s)
  | retract => exact same_ite (same_enterRampdown .fault h s) (.refl s)
  | vent =>
    unfold reactHead
    dsimp only
    split
    · exact .refl s
    · exact same_modHead s h _
    · exact same_enterVented level h s

theorem same_handHead (busy : Option Head) (r : Response) (h : Head) (s : State) :
    SameSurroundings s (handHead busy r h s) := same_ite (same_setDue s _) (same_reactHead _ _ h s)

theorem same_deliver (busy : Option Head) (r : Response) (s : State) : SameSurroundings s (deliver busy r s) := by
  unfold deliver
  split
  · exact same_handHead busy r _ s
  · exact ((((same_handHead busy r .a s).trans (same_handHead busy r .b _)).trans
      (same_ite (same_setCond _ _) (.refl _))).trans (same_ite (same_leaveOwners _ _) (.refl _))).trans
      (same_ite (same_setPulse _ _) (.refl _))

/-- The taking rule leaves the surroundings as they were. -/
theorem same_applyTaking (busy : Option Head) (s : State) : SameSurroundings s (applyTaking busy s) := by
  unfold applyTaking
  split
  · exact .refl s
  · exact (same_setFaults s _).trans (same_deliver busy _ _)

theorem same_detectWhile (busy : Option Head) (i : SourceId) (s : State) :
    SameSurroundings s (detectWhile busy i s) := (same_setFaults s _).trans (same_applyTaking busy _)

theorem same_detect (i : SourceId) (s : State) : SameSurroundings s (detect i s) := same_detectWhile none i s

theorem same_enterStep (h : Head) (j : Nat) (s : State) : SameSurroundings s (enterStep h j s) :=
  same_ite ((same_modHead s h _).trans (same_detectWhile _ _ _)) (same_beginStep h j s)

/-! ### The taking rule (R152) -/

/-- Everything the taking rule can do: nothing, or take a source of a higher level than the response level, the
current response going on the stack. -/
theorem take_cases (f : Arbiter) :
    f.take = (none, f) ∨ ∃ i : SourceId, f.choice = some i ∧ f.level < f.sources[i].level ∧
      f.take = (some ⟨f.sources[i].level, i, f.sources[i].reaction⟩,
        { f with current := some ⟨f.sources[i].level, i, f.sources[i].reaction⟩, stack := f.pushed }) := by
  unfold Arbiter.take
  split
  · exact .inl rfl
  · rename_i i hi
    dsimp only
    split
    · exact .inr ⟨i, hi, ‹_›, rfl⟩
    · exact .inl rfl

/-- A take touches no source's status or configuration. -/
theorem take_sources (f : Arbiter) : f.take.2.sources = f.sources := by
  rcases take_cases f with h | ⟨i, -, -, h⟩ <;> rw [h]

/-! ### A frame's arrival (R167) -/

/-- Everything an arrival can do: the frame is handled, waits behind the held one, or is discarded. -/
theorem arriveAt_cases (p : Port) (f : List Byte) (handle : State → State) (s : State) :
    (heldAt s p = [] ∧ arriveAt p f handle s = handle s) ∨
    (∃ x, heldAt s p = [x] ∧ arriveAt p f handle s = setHeld p [x, ⟨f, arrivalOf s⟩] s) ∨
    (2 ≤ (heldAt s p).length ∧ arriveAt p f handle s = s) := by
  unfold arriveAt
  match h : heldAt s p with
  | [] => exact .inl ⟨rfl, rfl⟩
  | [x] => exact .inr (.inl ⟨x, rfl, rfl⟩)
  | x :: y :: r => exact .inr (.inr ⟨by simp, rfl⟩)

@[simp] theorem arrivalOf_last (s : State) : (arrivalOf s).last = s.ring.last := rfl
@[simp] theorem arrivalOf_advance (s : State) : (arrivalOf s).advance = s.ring.advance := rfl
@[simp] theorem arrivalOf_cond (s : State) : (arrivalOf s).cond = s.cond.mode := rfl
@[simp] theorem arrivalOf_mode (s : State) (h : Head) : (arrivalOf s).mode h = (s.head h).mode := by cases h <;> rfl

@[simp] theorem heldAt_setHeld (p : Port) (x : List HeldFrame) (s : State) : heldAt (setHeld p x s) p = x := by
  cases p <;> rfl

@[simp] theorem heldAt_setHeld_u (x : List HeldFrame) (s : State) : heldAt (setHeld .u x s) .d = heldAt s .d := rfl
@[simp] theorem heldAt_setHeld_d (x : List HeldFrame) (s : State) : heldAt (setHeld .d x s) .u = heldAt s .u := rfl

/-- Everything a frame's arrival can do: its places are full and it is discarded, or the gap timer takes note of it and
it is handled or waits (R167, R180). -/
theorem frameArrives_cases (p : Port) (f : List Byte) (s : State) :
    (heldAt s p = [] ∧ frameArrives p f s = handleFrame p f (arrivalOf (gapAtArrival p f s)) (gapAtArrival p f s)) ∨
    (∃ x, heldAt s p = [x] ∧
      frameArrives p f s = setHeld p [x, ⟨f, arrivalOf s⟩] (gapAtArrival p f s)) ∨
    (2 ≤ (heldAt s p).length ∧ frameArrives p f s = s) := by
  have hg : heldAt (gapAtArrival p f s) p = heldAt s p := by
    unfold gapAtArrival; split <;> cases p <;> rfl
  have ha : arrivalOf (gapAtArrival p f s) = arrivalOf s := by unfold gapAtArrival; split <;> rfl
  unfold frameArrives
  split
  · exact .inr (.inr ⟨‹_›, rfl⟩)
  · rcases arriveAt_cases p f (fun t => handleFrame p f (arrivalOf t) t) (gapAtArrival p f s) with
      ⟨h, e⟩ | ⟨x, h, e⟩ | ⟨h, e⟩
    · exact .inl ⟨hg ▸ h, e⟩
    · exact .inr (.inl ⟨x, hg ▸ h, ha ▸ e⟩)
    · exact absurd (hg ▸ h) ‹_›

/-- Everything the taking up of a held frame can do: nothing is held, or the oldest frame is handled with the moment
of its arrival and the others move up (R167, R172). -/
theorem handleHeld_cases (p : Port) (s : State) :
    (heldAt s p = [] ∧ handleHeld p s = s) ∨
    ∃ x rest, heldAt s p = x :: rest ∧ handleHeld p s = handleFrame p x.frame x.arrival (setHeld p rest s) := by
  unfold handleHeld
  match h : heldAt s p with
  | [] => exact .inl ⟨rfl, rfl⟩
  | x :: rest => exact .inr ⟨x, rest, rfl, rfl⟩

/-! ### Frames -/

@[simp] theorem putLE_length (k n : Nat) : (putLE k n).length = k := by
  induction k generalizing n with
  | zero => rfl
  | succ k ih => simp [putLE, ih]

@[simp] theorem padTo_length (n : Nat) (l : List Byte) : (padTo n l).length = n := by
  simp [padTo]

@[simp] theorem withCrc_length (b : List Byte) : (withCrc b).length = b.length + 4 := by simp [withCrc]

/-- The bytes ahead of a computed CRC are the bytes it was computed over. -/
@[simp] theorem frameBody_withCrc (b : List Byte) : frameBody (withCrc b) = b := by
  simp [frameBody, withCrc]

/-- Writing into a bound slot keeps the number of slots. -/
@[simp] theorem mapFirst_length {α : Type} (p : α → Bool) (g : α → α) (l : List α) :
    (mapFirst p g l).length = l.length := by
  induction l with
  | nil => rfl
  | cons x xs ih => unfold mapFirst; split <;> simp [ih]

@[simp] theorem writeBound_length (r : Ring) (b : Binding) (p : List Byte) (l : List (List Byte)) :
    (writeBound r b p l).length = l.length := by
  unfold writeBound; split <;> simp

@[simp] theorem fillSlots_length (s : State) (k : Byte) (c : Nat → Option (List Byte)) (l : List (List Byte)) :
    (fillSlots s k c l).length = l.length := by simp [fillSlots]

end Sys2Proof.Machine
end

