-- ==== Sys2Proof/Laws/PerInstr.lean ====
section
/-! SUPPORT. The family of LAWS.json: for every command, no word of the opcode table spells it (the table gives
no row any bits). -/

namespace Sys2Proof.Laws.NoTableWord

/-- No word spells the command by the table's bits. -/
def Statement (i : Instr) : Prop := ∀ nbits w : Nat, decodeTableWord nbits w ≠ some i

/-- What every lemma of the family comes to. -/
theorem of_none (i : Instr) : Statement i := fun _ _ h => nomatch h

theorem powerOnReset (straps : BitVec 6) : Statement (.powerOnReset straps) := of_none _
theorem outboundCycleFrame (frame : List Byte) : Statement (.outboundCycleFrame frame) := of_none _
theorem returnCycleFrame (frame : List Byte) : Statement (.returnCycleFrame frame) := of_none _
theorem managementFrameForward (port : Port) (frame : List Byte) :
    Statement (.managementFrameForward port frame) := of_none _
theorem readbackAgeStale (k : ReadbackId) : Statement (.readbackAgeStale k) := of_none _
theorem start (h : Head) (count : BitVec 4) (endpoint : Bool) : Statement (.start h count endpoint) := of_none _
theorem hold (h : Head) (count : BitVec 4) (endpoint : Bool) : Statement (.hold h count endpoint) := of_none _
theorem resume (h : Head) (count : BitVec 4) (endpoint : Bool) : Statement (.resume h count endpoint) := of_none _
theorem stop (h : Head) (count : BitVec 4) (endpoint : Bool) : Statement (.stop h count endpoint) := of_none _
theorem vent (h : Head) (count : BitVec 4) (endpoint : Bool) : Statement (.vent h count endpoint) := of_none _
theorem recover (h : Head) (count : BitVec 4) (endpoint : Bool) :
    Statement (.recover h count endpoint) := of_none _
theorem stepTimeExit (h : Head) : Statement (.stepTimeExit h) := of_none _
theorem stepCap (h : Head) : Statement (.stepCap h) := of_none _
theorem startSweep (count : BitVec 4) : Statement (.startSweep count) := of_none _
theorem stopSweep (count : BitVec 4) : Statement (.stopSweep count) := of_none _
theorem step (count : BitVec 4) : Statement (.step count) := of_none _
theorem condTraverseTimeout : Statement (.condTraverseTimeout) := of_none _
theorem dwellEnd : Statement (.dwellEnd) := of_none _
theorem intervalTrigger : Statement (.intervalTrigger) := of_none _
theorem select (count : BitVec 4) (blend : Byte) : Statement (.select count blend) := of_none _
theorem release (count : BitVec 4) : Statement (.release count) := of_none _
theorem counterWrap (c : Channel) : Statement (.counterWrap c) := of_none _
theorem compareMatch (c : Channel) : Statement (.compareMatch c) := of_none _
theorem trackPersistence (h : Head) (z : Zone) (readback : BitVec 16) :
    Statement (.trackPersistence h z readback) := of_none _
theorem flowPersistence (c : Channel) (readback : BitVec 16) : Statement (.flowPersistence c readback) := of_none _
theorem frameGap : Statement (.frameGap) := of_none _
theorem firstSettling (n : InputId) (pin : Bool) : Statement (.firstSettling n pin) := of_none _
theorem estopOkFalling : Statement (.estopOkFalling) := of_none _
theorem doorClosedFalling : Statement (.doorClosedFalling) := of_none _
theorem leakRising : Statement (.leakRising) := of_none _
theorem padPresentFalling : Statement (.padPresentFalling) := of_none _
theorem padPresentRising : Statement (.padPresentRising) := of_none _
theorem diskPresentFalling : Statement (.diskPresentFalling) := of_none _
theorem diskPresentRising : Statement (.diskPresentRising) := of_none _
theorem platenIndexRising : Statement (.platenIndexRising) := of_none _
theorem waferPresentFalling (h : Head) : Statement (.waferPresentFalling h) := of_none _
theorem inputEdge (e : QuietEdge) : Statement (.inputEdge e) := of_none _
theorem readState (block : Byte) (page : BitVec 16) (e : Envelope) :
    Statement (.readState block page e) := of_none _
theorem readEntry (table : Byte) (index : BitVec 16) (e : Envelope) :
    Statement (.readEntry table index e) := of_none _
theorem getParam (table : Byte) (id : BitVec 16) (e : Envelope) : Statement (.getParam table id e) := of_none _
theorem writeEntryStep (h : Head) (index : BitVec 16) (e : Envelope) :
    Statement (.writeEntryStep h index e) := of_none _
theorem writeEntryCoupling (h : Head) (index : BitVec 16) (e : Envelope) :
    Statement (.writeEntryCoupling h index e) := of_none _
theorem writeEntryZone (h : Head) (index : BitVec 16) (e : Envelope) :
    Statement (.writeEntryZone h index e) := of_none _
theorem writeEntrySegment (index : BitVec 16) (e : Envelope) : Statement (.writeEntrySegment index e) := of_none _
theorem writeEntryProgram (index : BitVec 16) (e : Envelope) : Statement (.writeEntryProgram index e) := of_none _
theorem writeEntryBlend (index : BitVec 16) (e : Envelope) : Statement (.writeEntryBlend index e) := of_none _
theorem writeEntryChannel (index : BitVec 16) (e : Envelope) : Statement (.writeEntryChannel index e) := of_none _
theorem writeEntrySlotmap (index : BitVec 16) (e : Envelope) : Statement (.writeEntrySlotmap index e) := of_none _
theorem writeEntrySource (index : BitVec 16) (e : Envelope) : Statement (.writeEntrySource index e) := of_none _
theorem setParamStepCount (h : Head) (table : Byte) (e : Envelope) :
    Statement (.setParamStepCount h table e) := of_none _
theorem setParamDmax (h : Head) (table : Byte) (e : Envelope) : Statement (.setParamDmax h table e) := of_none _
theorem setParamPadGain (h : Head) (table : Byte) (e : Envelope) :
    Statement (.setParamPadGain h table e) := of_none _
theorem setParamRemovalK (h : Head) (table : Byte) (e : Envelope) :
    Statement (.setParamRemovalK h table e) := of_none _
theorem setParamSegmentCount (table : Byte) (e : Envelope) : Statement (.setParamSegmentCount table e) := of_none _
theorem setParamPadRefHeight (table : Byte) (e : Envelope) : Statement (.setParamPadRefHeight table e) := of_none _
theorem setParamPadAgeLimit (table : Byte) (e : Envelope) : Statement (.setParamPadAgeLimit table e) := of_none _
theorem setParamAbrasiveRefFlow (table : Byte) (e : Envelope) :
    Statement (.setParamAbrasiveRefFlow table e) := of_none _
theorem setParamReadbackStaleLimit (table : Byte) (e : Envelope) :
    Statement (.setParamReadbackStaleLimit table e) := of_none _
theorem setParamFrameGapLimit (table : Byte) (e : Envelope) :
    Statement (.setParamFrameGapLimit table e) := of_none _
theorem setParamDiRate (n : InputId) (table : Byte) (e : Envelope) :
    Statement (.setParamDiRate n table e) := of_none _
theorem arm (table : Byte) (index : BitVec 16) (e : Envelope) : Statement (.arm table index e) := of_none _
theorem disarm (table : Byte) (index : BitVec 16) (e : Envelope) : Statement (.disarm table index e) := of_none _
theorem setHoldPoint (table : Byte) (index : BitVec 16) (e : Envelope) :
    Statement (.setHoldPoint table index e) := of_none _
theorem clearSources (table : Byte) (index : BitVec 16) (e : Envelope) :
    Statement (.clearSources table index e) := of_none _
theorem returnLevel (table : Byte) (index : BitVec 16) (e : Envelope) :
    Statement (.returnLevel table index e) := of_none _
theorem resetRuntime (table : Byte) (index : BitVec 16) (e : Envelope) :
    Statement (.resetRuntime table index e) := of_none _
theorem inputSample (n : InputId) (pin : Bool) : Statement (.inputSample n pin) := of_none _

end Sys2Proof.Laws.NoTableWord
end

