-- ==== Sys2Proof/Tests/Slice0.lean ====
section
/-! SUPPORT. The model's own tests: the well-formedness smoke, the worked examples of the spec, one step each, and a
witness for the hypotheses of every statement that has hypotheses. -/

namespace Sys2Proof.Tests

open Sys2Proof Sys2Proof.Machine

-- One theorem after another: the kernel evaluates them in turn, and threads that wait for it would only cost memory.
set_option Elab.async false

/-! ### States to test on -/

/-- A TIME step of two cycles with target 2000 pu everywhere, conditioning absent. -/
def stepOf (kind : ExitKind) (cap : CapAction) (blend : BlendField) (loop : Option LoopField) : StepEntry where
  targets := Vector.replicate 8 2000
  rates := Vector.replicate 8 250
  duration := 2
  exitKind := kind
  capAction := cap
  removalTarget := some 1
  refZone := some 3
  blend := blend
  conditioning := .absent
  loop := loop

/-- A head with two defined steps and every zone limited to 500 to 6000 pu, release 800 pu. -/
def headIn (mode : HeadMode) : HeadUnit :=
  { HeadUnit.reset with
    steps := ((Vector.replicate 64 none).set 0 (some (stepOf .time .continue .absent none))).set 1
      (some (stepOf .time .continue .absent none))
    stepCount := 2
    mode := mode
    zoneConf := Vector.replicate 8 ⟨500, 6000, 800, 300, 300, 2, none⟩ }

/-- The conditioner with segments 0 and 1 and the given program mode. -/
def condIn (mode : CondMode) (sweep : SweepMode) (report : ReportMode) : Conditioner :=
  { Conditioner.reset with
    segments := ((Vector.replicate 32 none).set 0 (some ⟨100, 200, 3, 180, 90⟩)).set 1 (some ⟨200, 300, 3, 180, 90⟩)
    segCount := 2
    program := some ⟨0, 1, sweep, true, true, true, 5, 50, 5, 8, report⟩
    mode := mode }

/-- Blend 1 at 300 mL/min, ratios 128, 64, 64, 0; channel 0 enabled and abrasive with a delay of 4. -/
def slurryIn (blend : Option Nat) (owners : Parties) : Slurry :=
  { Slurry.reset with
    blends := (Vector.replicate 16 none).set 1 (some ⟨300, #v[128, 64, 64, 0]⟩)
    channels := (Vector.replicate 4 ChannelConf.reset).set 0 ⟨true, 4, 200, true, 20, 12, true, 4, 10, true⟩
    flows := (Vector.replicate 4 (ChannelFlow.reset 0)).set 0 (ChannelFlow.reset 4)
    abrasiveRef := 200
    blend := blend
    owners := owners }

/-- The commands of head A's eight zones at nodes 10 to 17, its first readback at 20, the conditioner's at 21 and
22. -/
def slots : Vector (Option SlotEntry) 48 :=
  Vector.ofFn fun i =>
    if h : i.val < 8 then some ⟨.zoneCommand .a ⟨i.val, h⟩, BitVec.ofNat 8 (10 + i.val), 0x20⟩
    else if i.val = 8 then some ⟨.readback (.zone .a 0), 20, 0x20⟩
    else if i.val = 9 then some ⟨.readback .conditioner, 21, 0x20⟩
    else if i.val = 10 then some ⟨.condCommand, 22, 0x20⟩
    else none

/-- The part at address 5, configured, every input accepted asserted. -/
def part (a : HeadUnit) (c : Conditioner) (x : Slurry) : State :=
  { State.resetWith 5 (Vector.replicate 8 true) with
    headA := a, cond := c, slurry := x
    ring := { Ring.reset with slotMap := slots, last := some 7, advance := 1 }
    inputs := Vector.replicate 8 ⟨.us100, [true, true, true], some true, 0, true⟩ }

/-- Nothing but head A in the given state. -/
def withHead (a : HeadUnit) : State := part a (condIn .parked .continuous .overwrite) (slurryIn none Parties.empty)

/-- Head A RUNNING in step 0, one cycle before its end. -/
def running : HeadUnit := { headIn .running with current := some 0, timer := 1 }

/-- A request addressed to the part, with its data. -/
def request (length : Byte) (data : List Byte) : Envelope :=
  ⟨0, 0, 0, 5, 7, 0xFF, length, 0, Vector.replicate 6 0, Vector.ofFn fun i => data.getD i.val 0⟩

/-- The state after a command, where it answers one. -/
def after (c : Instr) (s : State) : State :=
  match exec c s with
  | .next t => t
  | .fault _ | .refused _ => s

/-- A cycle frame with one slot: its node, kind, index and payload. -/
def slotFrame (n : Nat) (node kind index : Byte) (payload : List Byte) : List Byte :=
  withCrc ([1, 0] ++ put16 n ++ [1, 0] ++ put16 28 ++ [node, kind, index, 0] ++ padTo 12 payload)

/-- A cycle frame with one empty slot of node 10. -/
def cycleFrame (n : Nat) : List Byte := slotFrame n 10 0x20 0 []

/-- A frame of one slot of the part's own node. -/
def ownFrame (n : Nat) (kind index : Byte) (payload : List Byte) : List Byte := slotFrame n 5 kind index payload

/-! ### Well-formedness: an ill-formed term for each check -/

theorem test_wf_empty_outbound : (Instr.outboundCycleFrame []).wellFormed = false := by decide
theorem test_wf_management_as_outbound : (Instr.outboundCycleFrame [2]).wellFormed = false := by decide
theorem test_wf_empty_return : (Instr.returnCycleFrame []).wellFormed = false := by decide
theorem test_wf_management_as_return : (Instr.returnCycleFrame [2, 0]).wellFormed = false := by decide
theorem test_wf_empty_management : (Instr.managementFrameForward .u []).wellFormed = false := by decide
theorem test_wf_cycle_as_management : (Instr.managementFrameForward .d [1]).wellFormed = false := by decide
theorem test_wf_outbound : (Instr.outboundCycleFrame [1]).wellFormed = true := by decide

/-! ### The worked examples of the spec -/

/-- R168: the CRC of the ASCII digits 1 to 9 is 0xCBF43926. -/
theorem test_crc_check_value :
    crc32 [0x31, 0x32, 0x33, 0x34, 0x35, 0x36, 0x37, 0x38, 0x39] = 0xCBF43926#32 := by decide +kernel

/-- Section 2.8, the ramp: 2500 by 250 is 2750; 2750 by 750 reaches 3400; 3400 falls to 3200. -/
theorem test_ramp : ramp 2500 3400 250 = 2750 ∧ ramp 2750 3400 750 = 3400 ∧ ramp 3400 800 200 = 3200 := by decide

/-- Section 2.8, the pad term: gain 40 with −7 µm is −17 pu, and −15 ÷ 2 truncates to −7. -/
theorem test_pad_term : padTerm 40 (-7) = -17 ∧ (-15 : Int).tdiv 2 = -7 := by decide

/-- R42: 4096ths round to nearest, ties away from zero. -/
theorem test_round4096 : round4096 6144 = 2 ∧ round4096 (-6144) = -2 ∧ round4096 6143 = 1 ∧
    round4096 1353000 = 330 := by decide

/-- Section 2.8, the whole pass and the two differential clamp examples. -/
theorem test_diff_clamp :
    diffClamp 150 [2840, 2880, 3070, 3060, 3065, 2975, 2935] = [2840, 2880, 3030, 3060, 3065, 2975, 2935] ∧
    diffClamp 150 [2900, 3300, 3100, 3150, 3400, 3450, 3500] = [2900, 3050, 3100, 3150, 3300, 3450, 3500] ∧
    diffClamp 150 [3500, 3000, 3000, 3000, 3000, 3000, 3000] = [3150, 3000, 3000, 3000, 3000, 3000, 3000] := by
  decide

/-- Section 3.9: 196, 590, 98 and 458 ru. -/
theorem test_removal_increments :
    removalIncrement 3000 1000 256 1100 1 = 196 ∧ removalIncrement 3000 1000 256 1100 3 = 590 ∧
    removalIncrement 3000 1000 128 1100 1 = 98 ∧ removalIncrement 3500 1000 256 1100 2 = 458 := by decide

/-- Section 6.8: three pushes of 150 into 0, 0, 150, 150 leave four of them and remove a 150 last. -/
theorem test_delay_line : pushFlow 150 3 [0, 0, 150, 150] = ([150, 150, 150, 150], 150) ∧
    pushFlow 150 1 [0, 0, 0, 0] = ([0, 0, 0, 150], 0) := by decide

/-- Section 6.8: duties 768, 1024 (limited) and 76. -/
theorem test_duty :
    let k (full res : Nat) : ChannelConf := { ChannelConf.reset with fullScale := full, resolution := res }
    duty (k 200 10) 150 = 768 ∧ duty (k 60 10) 75 = 1024 ∧ dutyLimited (k 60 10) 75 = true ∧
      duty (k 250 8) 75 = 76 ∧ dutyLimited (k 250 8) 75 = false := by decide

/-- Section 6.8, the flow check: 9 and 4 saturate at the persistence of 12; within the band it is 0. -/
theorem test_flow_check :
    let k : ChannelConf := { ChannelConf.reset with flowCheck := true, flowBand := 20, flowPersist := 12 }
    let f : ChannelFlow := ⟨75, [], 0, false, 9⟩
    (checkFlow k 4 (some 50) f).dev = 12 ∧ (checkFlow k 1 (some 58) f).dev = 0 ∧ (checkFlow k 1 none f).dev = 9 := by
  decide

/-- Section 4.12: from segment 6 to segment 1 of a table of 8, by way of 7 and 0. -/
theorem test_traversal : traversal 8 6 1 = [6, 7, 0, 1] ∧ traversal 3 0 2 = [0, 1, 2] ∧ traversal 4 2 2 = [2] := by
  decide

/-- R170: 0 is a duplicate, 8 is the last admitted difference, 9 a discontinuity with advance 1. -/
theorem test_cycle_judged : judgeCycle (some 7) 7 = none ∧ judgeCycle (some 7) 15 = some (8, false) ∧
    judgeCycle (some 7) 16 = some (1, true) ∧ judgeCycle (some 0xFFFF) 0 = some (1, false) ∧
    judgeCycle none 9 = some (1, false) := by decide

/-- No table row has bits: no word spells a command. -/
theorem test_no_word : decodeTableWord 8 1 = none := by decide

/-! ### One step each -/

/-- Section 8.8: the third deasserted sample is accepted, and WAFER_LOSS_A is set. -/
theorem test_wafer_loss :
    let s := withHead running
    let s := { s with inputs := s.inputs.set 6 ⟨.us100, [true, false, false], some true, 0, false⟩ }
    (after (.inputSample 6 false) s).faults.sources[(4 : SourceId)].status = true ∧
      (after (.inputSample 6 false) s).headA.mode = .vented := by decide

/-- Section 7.9: a wrap with buffer 768 makes the compare 768 and the output active; the match ends it. -/
theorem test_pulse_period :
    let s := withHead running
    let s := { s with pulse := ⟨true, s.pulse.ch.set 0 ⟨true, true, 1023, 3, 768, 0, false⟩⟩ }
    let t := after (.counterWrap 0) s
    (t.pulse.ch[0]).compare = 768 ∧ (t.pulse.ch[0]).active = true ∧
      ((after (.compareMatch 0) t).pulse.ch[0]).active = false := by decide

/-- Section 9.8: RETURN_LEVEL with ESTOP_CHAIN pending takes it again. -/
theorem test_return_level_retakes :
    let s := withHead (headIn .vented)
    let f : Arbiter := { s.faults.setStatus 0 with current := some ⟨7, 0, .vent⟩, stack := [⟨6, 2, .retract⟩] }
    let t := after (.returnLevel 0 0 (request 0 [])) { s with faults := f }
    t.faults.current = some ⟨7, 0, .vent⟩ ∧ t.faults.stack = [⟨6, 2, .retract⟩] ∧ t.headA.ventLevel = 7 := by decide

/-- R19, R22: the TIME step ends when its timer reaches 2, and step 1 begins with timer 0. -/
theorem test_step_time_exit :
    (after (.stepTimeExit .a) (withHead running)).headA.current = some 1 ∧
      (after (.stepTimeExit .a) (withHead running)).headA.timer = 0 := by decide

/-- R180: an expiry of the gap timer vents the running head at level 7. -/
theorem test_frame_gap :
    let s := withHead running
    let s := { s with ring := { s.ring with gap := .running 4999 } }
    (after .frameGap s).headA.mode = .vented ∧ (after .frameGap s).headA.ventLevel = 7 := by decide

/-- R4, R5: the two-step recipe with its eight zones bound arms. -/
theorem test_arm : (after (.arm 0 0 (request 0 [])) (withHead (headIn .idle))).headA.mode = .ready := by decide

/-! ### Witnesses: states that meet the hypotheses of the statements -/

theorem arbiterInv_of (f : Arbiter)
    (h : (∀ i : SourceId, i.val < 2 →
        f.sources[i].enable = true ∧ f.sources[i].level = 7 ∧ f.sources[i].reaction = .vent) ∧
      (∀ i : SourceId, 2 ≤ i.val → f.sources[i].level ≤ 6) ∧
      (∀ i : SourceId, f.sources[i].isPending = true → f.sources[i].level ≤ f.level) ∧
      ((f.current.toList ++ f.stack).Pairwise fun x y => y.level < x.level) ∧
      (∀ r ∈ f.current.toList ++ f.stack, 1 ≤ r.level ∧ r.level ≤ 7) ∧
      (∀ r ∈ f.current.toList ++ f.stack, r.level = 7 → r.source.val < 2 ∧ r.reaction = .vent) ∧
      (f.current = none → f.stack = [])) : ArbiterInv f :=
  ⟨h.1, h.2.1, h.2.2.1, h.2.2.2.1, h.2.2.2.2.1, h.2.2.2.2.2.1, h.2.2.2.2.2.2⟩

/-- TRACK_A in force at level 4 over a HOLD_POINT response at level 1. -/
def raised : Arbiter :=
  { Arbiter.reset.setStatus 6 with current := some ⟨4, 6, .hold⟩, stack := [⟨1, 21, .notify⟩] }

/-- Head A HELD by TRACK_A in step 0, with blend 1 flowing and channel 0 running. -/
def busy : State :=
  let s := part { running with mode := .held, causes := ⟨false, false, some 4, false⟩ }
    (condIn .parked .continuous .overwrite) (slurryIn (some 1) ⟨true, false, false⟩)
  { s with faults := raised, pulse := ⟨true, s.pulse.ch.set 0 ⟨true, false, 500, 0, 768, 768, true⟩⟩ }

/-- The conditioner in REPORT_HOLD: a sample staged behind a pending one. -/
def holding : Conditioner :=
  { condIn .reportHold .stepped .protect with
    demand := ⟨false, false, true⟩, current := some 0, cont := .stepWait 1
    pendingSample := some ⟨1, 2000, 4, 6⟩, stagedSample := some ⟨0, 2100, 5, 7⟩ }

theorem ready_busy : Ready busy := ⟨by decide, rfl⟩
theorem ready_running : Ready (withHead running) := ⟨by decide, rfl⟩
theorem arbiterInv_raised : ArbiterInv raised := arbiterInv_of _ (by decide)
theorem arbiterInv_reset : ArbiterInv (withHead running).faults := arbiterInv_of _ (by decide)

theorem witness_EveryCommandCompletes : ∀ x, Instr.frameGap ≠ .powerOnReset x := nofun

theorem witness_TablesHold : (Instr.frameGap).wellFormed = true ∧ configures .frameGap = false ∧
    ∃ t, exec .frameGap busy = .next t := ⟨rfl, rfl, _, rfl⟩

theorem witness_NothingLeftDue : busy.due = [] ∧ ∃ t, step busy = .next t := ⟨rfl, _, rfl⟩

/-- The gap timer two and one below its limit of 5000, unarmed and expired; inputs one µs before their sample, at it,
and with the rate OFF; pulse counters before and at their prescale of 4, at the last value of the period, and stopped;
pass-through address. -/
theorem witness_IdleStepPassesTime :
    let gap (g : GapTimer) : State := busy.setRing { busy.ring with gap := g }
    let input (r : DiRate) (k : Nat) : State :=
      { busy with inputs := busy.inputs.set 6 ⟨r, [true, true], some true, k, true⟩ }
    let pulse (counter phase : Nat) : State :=
      { busy with pulse := ⟨true, busy.pulse.ch.set 0 ⟨true, false, counter, phase, 768, 768, true⟩⟩ }
    let quiet (s : State) : Prop := s.pending = [] ∧ s.ring.heldU = [] ∧ s.ring.heldD = []
    (quiet busy ∧ passThrough busy = false ∧ busy.ring.gap = .unarmed) ∧
    (quiet (gap (.running 4998)) ∧ (gap (.running 4998)).ring.gapLimit = 4998 + 2) ∧
    (quiet (gap (.running 4999)) ∧ (gap (.running 4999)).ring.gapLimit = 4999 + 1) ∧
    (gap .expired).ring.gap = .expired ∧
    (quiet (input .us100 98) ∧ 98 + 1 < 100 ∧ quiet (input .us100 99) ∧ 100 ≤ 99 + 1) ∧
    (input .off 0).inputs[(6 : InputId)].rate = .off ∧
    (quiet (pulse 500 2) ∧ 2 + 1 < (busy.slurry.channels[(0 : Channel)]).prescale) ∧
    (quiet (pulse 500 3) ∧ (busy.slurry.channels[(0 : Channel)]).prescale = 3 + 1 ∧
      500 + 1 < 2 ^ (busy.slurry.channels[(0 : Channel)]).resolution) ∧
    (quiet (pulse 1023 3) ∧ 2 ^ (busy.slurry.channels[(0 : Channel)]).resolution = 1023 + 1) ∧
    (busy.pulse.ch[(1 : Channel)]).running = false ∧
    (quiet { busy with address := 63 } ∧ passThrough { busy with address := 63 } = true) := by decide

theorem witness_ArbiterKept : ArbiterInv busy.faults ∧ ∃ t, step busy = .next t := ⟨arbiterInv_raised, _, rfl⟩

theorem supply_busy : SupplyInv busy := ⟨by decide, by decide, by decide, by decide⟩

theorem witness_SupplyKept : SupplyInv busy ∧ ∃ t, step busy = .next t := ⟨supply_busy, _, rfl⟩

theorem heads_busy : HeadsInv busy := by
  intro h
  cases h <;> exact ⟨⟨by decide, by decide, by decide, by decide, by decide, by decide, by decide⟩,
    ⟨by decide, by decide, by decide, by decide⟩⟩

theorem witness_HeadsKept : HeadsInv busy ∧ ∃ t, step busy = .next t := ⟨heads_busy, _, rfl⟩

/-- At the level 7 itself, with both heads VENTED. -/
theorem witness_LevelSevenKept :
    let s := withHead { headIn .vented with ventLevel := 7 }
    let s := { s with faults := { s.faults with current := some ⟨7, 0, .vent⟩ } }
    ArbiterInv s.faults ∧ HeadsInv s ∧ LevelSevenInv s ∧ s.faults.level = 7 ∧ ∃ t, step s = .next t := by
  refine ⟨arbiterInv_of _ (by decide), ?_, ?_, rfl, _, rfl⟩
  · intro h
    cases h <;> exact ⟨⟨by decide, by decide, by decide, by decide, by decide, by decide, by decide⟩,
      ⟨by decide, by decide, by decide, by decide⟩⟩
  · intro _ h
    cases h <;> decide

theorem witness_RemovalKept :
    let s := withHead { running with
      stepAcc := Vector.replicate 7 65535, waferAcc := Vector.replicate 7 (2 ^ 48 - 1) }
    RemovalInv s ∧ ∃ t, step s = .next t := by
  refine ⟨?_, _, rfl⟩
  intro h
  cases h <;> decide

theorem delay_busy : DelayInv busy := by unfold DelayInv; decide

theorem witness_SamplesAndDelayLinesKept : (SampleInv holding ∧
      ∃ t, step (part (headIn .idle) holding (slurryIn none Parties.empty)) = .next t) ∧
    DelayInv busy ∧ ∃ t, step busy = .next t :=
  ⟨⟨⟨by decide, by decide, by decide, by decide⟩, _, rfl⟩, delay_busy, _, rfl⟩

theorem slotMap_busy : SlotMapInv busy := ⟨by decide +kernel, by decide +kernel, by decide⟩

theorem witness_SlotMapKept : SlotMapInv busy ∧ ∃ t, step busy = .next t := ⟨slotMap_busy, _, rfl⟩

/-- ArmedInv from checks on the steps below the step count. -/
theorem armed_of {x : Slurry} {u : HeadUnit} (h : 1 ≤ u.stepCount ∧ zoneConfigOk u = true ∧
    (∀ j : Fin 64, j.val < u.stepCount → ((u.step j.val).map fun st => targetsOk u st && removalFieldsOk st &&
      blendDefined x st && loopTargetOk j.val st && loopDisjoint u j.val st) = some true) ∧
    u.stepCount ≤ 64 ∧ (∀ j ∈ u.current, j < u.stepCount) ∧ ∀ j ∈ u.pendingStep, j < u.stepCount) :
    ArmedInv x u := by
  refine ⟨fun _ => h.1, fun _ => h.2.1, fun _ j hj => ?_, fun _ => h.2.2.2.2.1, fun _ => h.2.2.2.2.2⟩
  obtain ⟨st, hs, e⟩ := Option.map_eq_some_iff.mp (h.2.2.1 ⟨j, by omega⟩ hj)
  simp only [Bool.and_eq_true, and_assoc] at e
  exact ⟨st, hs, e⟩

theorem armed_busy : ArmedInv busy.slurry (busy.head .a) := armed_of (by decide)

theorem witness_ArmedKept : HeadsInv busy ∧ ArmedInv busy.slurry (busy.head .a) ∧ (busy.head .a).mode = .held ∧
    ∃ t, step busy = .next t := ⟨heads_busy, armed_busy, rfl, _, rfl⟩

/-- What START asks of the state around a head that may start. -/
def mayStart (s : State) : Prop :=
  (∀ n ∈ startInterlocks .a, acceptedLevel s n = some true) ∧ barsStart s.faults .a = false ∧
    (∀ z : Zone, (slotFor s.ring (.zoneCommand .a z)).isSome = true)

/-- A head COMPLETE with its whole summary carried, or not. -/
def completed (carried : Bool) : HeadUnit :=
  let x : Summary := ⟨some .normal, 2, 0, 9, false, false, Vector.replicate 7 0, Vector.replicate 7 false,
    Vector.replicate 7 false, Vector.replicate 8 carried⟩
  { headIn .complete with summary := some x }

/-- A hold point at step j of head A. -/
def pointAt (j : Nat) (s : State) : State := s.setHoldPoints (s.holdPoints.set 0 ⟨true, .a, j⟩)

theorem headsInv_of (s : State) (h : ∀ h : Head,
    ((((s.head h).mode = .running → (s.head h).causes.isEmpty = true) ∧
      ((s.head h).mode = .held → (s.head h).causes.isEmpty = false) ∧
      ((s.head h).mode.inStep = false → (s.head h).causes.isEmpty = true ∧ (s.head h).pendingStep = none ∧
        (s.head h).loopCounter = 0) ∧
      ((s.head h).pendingStep.isSome = true → (s.head h).mode = .held) ∧
      ((s.head h).mode = .idle → (s.head h).summary = none ∧ (s.head h).current = none) ∧
      ((s.head h).mode ≠ .vented → (s.head h).ventLevel = 0) ∧
      ((s.head h).mode = .complete → (s.head h).summary.isSome = true)) ∧
    (s.slurry.owners.has (.head h) = true → (s.head h).mode.inStep = true) ∧
    ((s.slurry.undecided h).isSome = true → (s.head h).mode.inStep = true) ∧
    ((s.slurry.wait h).isSome = true ↔ (s.head h).causes.blendWait = true) ∧
    ((s.slurry.wait h).isSome = true →
      (s.head h).mode = .held ∧ s.slurry.owners.has (.head h) = false ∧ s.slurry.undecided h = none))) :
    HeadsInv s := fun x =>
  let ⟨⟨a, b, c, d, e, f, g⟩, i, j, k, l⟩ := h x
  ⟨⟨a, b, c, d, e, f, g⟩, ⟨i, j, k, l⟩⟩

theorem heads_ready : HeadsInv (withHead (headIn .ready)) := headsInv_of _ (by intro h; cases h <;> decide)
theorem heads_complete : HeadsInv (withHead (completed true)) := headsInv_of _ (by intro h; cases h <;> decide)

/-- READY, and COMPLETE with its summary carried; step 0 with ON from PARKED with every part of the start check met, and
with the pad gone; with OFF of the last member of a sweep. -/
theorem witness_StartBeginsAWafer :
    let s := withHead (headIn .ready)
    let c := withHead (completed true)
    let entry (f : CondField) : HeadUnit := { headIn .ready with
      steps := (headIn .ready).steps.set 0 (some { stepOf .time .continue .absent none with conditioning := f }) }
    let on := withHead (entry .on)
    let noPad := { on with inputs := on.inputs.set 3 ⟨.us100, [], some false, 0, false⟩ }
    let off := part (entry .off) { condIn .sweeping .continuous .overwrite with demand := ⟨true, false, false⟩ }
      (slurryIn none Parties.empty)
    (Ready s ∧ HeadsInv s ∧ s.headA.mode = .ready ∧ mayStart s ∧ holdPointHit s .a 0 = false ∧
      (s.headA.step 0).isSome = true) ∧
    (Ready c ∧ HeadsInv c ∧ c.headA.mode = .complete ∧ c.headA.summary.map Summary.isCarried = some true ∧
      mayStart c) ∧
    (on.cond.mode = .parked ∧ (on.headA.step 0).map (·.conditioning) = some .on ∧
      (∃ p ∈ on.cond.program, on.cond.segmentsOk p = true) ∧ padAndDisk on = true ∧
      satisfied noPad Di.padPresent = false) ∧
    ((off.headA.step 0).map (·.conditioning) = some .off ∧ off.cond.mode = .sweeping ∧
      off.cond.demand.put (.head .a) false = Parties.empty) := by
  refine ⟨⟨⟨?_, ?_⟩, heads_ready, ?_, ⟨?_, ?_, ?_⟩, ?_⟩, ⟨⟨?_, ?_⟩, heads_complete, ?_, ?_, ⟨?_, ?_, ?_⟩⟩,
    ⟨?_, ?_, ⟨_, rfl, ?_⟩, ?_⟩, ?_⟩ <;> decide

/-- One state for each of the five refusals, in the order of R8; a START with a hold point at step 0. -/
theorem witness_StartRefusedOrDeferred :
    let point := pointAt 0 (withHead (headIn .ready))
    let pend := withHead (completed false)
    let lock := { withHead (headIn .ready) with
      inputs := (withHead (headIn .ready)).inputs.set 1 ⟨.us100, [], none, 0, true⟩ }
    let barred := { withHead (headIn .ready) with faults := { Arbiter.reset with current := some ⟨4, 6, .hold⟩ } }
    let loose := (withHead (headIn .ready)).setRing
      { (withHead (headIn .ready)).ring with slotMap := slots.set 7 none }
    (Ready (withHead running) ∧ running.mode ≠ .ready ∧ running.mode ≠ .complete) ∧
    (Ready pend ∧ pend.headA.mode = .complete ∧ pend.headA.summary.map Summary.isCarried = some false) ∧
    (Ready lock ∧ lock.headA.mode = .ready ∧ ∃ n ∈ startInterlocks .a, acceptedLevel lock n ≠ some true) ∧
    (Ready barred ∧ barred.headA.mode = .ready ∧ barsStart barred.faults .a = true ∧
      ∀ n ∈ startInterlocks .a, acceptedLevel barred n = some true) ∧
    (Ready loose ∧ loose.headA.mode = .ready ∧ barsStart loose.faults .a = false ∧
      ∃ z : Zone, slotFor loose.ring (.zoneCommand .a z) = none) ∧
    (Ready point ∧ ArbiterInv point.faults ∧ point.faults.sources[Src.holdPoint].reaction = .notify ∧
      startOutcome .a point = .taken ∧ holdPointHit point .a 0 = true) := by
  refine ⟨⟨⟨?_, ?_⟩, ?_⟩, ⟨⟨?_, ?_⟩, ?_⟩, ⟨⟨?_, ?_⟩, ?_⟩, ⟨⟨?_, ?_⟩, ?_⟩, ⟨⟨?_, ?_⟩, ?_⟩,
    ⟨⟨?_, ?_⟩, arbiterInv_of _ ?_, ?_⟩⟩ <;> decide

/-- HOLD from RUNNING, from HELD, and from READY. -/
theorem witness_HoldDirective : (Ready (withHead running) ∧ (withHead running).headA.mode = .running) ∧
    (Ready busy ∧ busy.headA.mode = .held) ∧
    (Ready (withHead (headIn .ready)) ∧ (withHead (headIn .ready)).headA.mode = .ready) := by
  refine ⟨⟨⟨?_, ?_⟩, ?_⟩, ⟨⟨?_, ?_⟩, ?_⟩, ⟨⟨?_, ?_⟩, ?_⟩⟩ <;> decide

/-- HELD with a FAULT at the response level 4 (refused) and at 5, one above it; with BLEND_WAIT; with a pending
step; and not HELD. -/
theorem witness_ResumeDirective :
    let held (c : HoldCauses) (j : Option Nat) : State :=
      { withHead { running with mode := .held, causes := c, pendingStep := j } with faults := raised }
    let fault (l : Nat) : HoldCauses := ⟨true, true, some l, false⟩
    (Ready (withHead running) ∧ (withHead running).headA.mode ≠ .held) ∧
    (Ready (held (fault 4) none) ∧ (held (fault 4) none).headA.causes.fault = some 4 ∧
      4 ≤ (held (fault 4) none).faults.level) ∧
    (Ready (held (fault 5) none) ∧ (held (fault 5) none).headA.mode = .held ∧
      (∀ l ∈ (held (fault 5) none).headA.causes.fault, (held (fault 5) none).faults.level < l) ∧
      (held (fault 5) none).headA.causes.blendWait = false) ∧
    (Ready (held ⟨true, false, none, true⟩ none) ∧ (held ⟨true, false, none, true⟩ none).headA.mode = .held) ∧
    (Ready (held ⟨false, true, none, false⟩ (some 1)) ∧
      (held ⟨false, true, none, false⟩ (some 1)).headA.pendingStep = some 1 ∧
      ((held ⟨false, true, none, false⟩ (some 1)).headA.step 1).isSome = true) := by
  refine ⟨⟨⟨?_, ?_⟩, ?_⟩, ⟨⟨?_, ?_⟩, ?_⟩, ⟨⟨?_, ?_⟩, ?_⟩, ⟨⟨?_, ?_⟩, ?_⟩, ⟨⟨?_, ?_⟩, ?_⟩⟩ <;> decide

/-- STOP from HELD with the claim, from RUNNING without one, and from RAMPDOWN; VENT from IDLE, VENTED, RAMPDOWN and
HELD. -/
theorem witness_StopAndVentDirectives : (Ready busy ∧ busy.headA.mode.inStep = true) ∧
    (Ready (withHead running) ∧ (withHead running).headA.mode.inStep = true ∧
      (withHead running).slurry.owners.has (.head .a) = false) ∧
    (Ready (withHead (headIn .rampdown)) ∧ (headIn .rampdown).mode.inStep = false ∧
      (headIn .rampdown).mode = .rampdown) ∧
    (Ready (withHead (headIn .idle)) ∧ (headIn .idle).mode = .idle) ∧
    (Ready (withHead (headIn .vented)) ∧ (headIn .vented).mode = .vented) := by
  refine ⟨⟨⟨?_, ?_⟩, ?_⟩, ⟨⟨?_, ?_⟩, ?_⟩, ⟨⟨?_, ?_⟩, ?_⟩, ⟨⟨?_, ?_⟩, ?_⟩, ⟨⟨?_, ?_⟩, ?_⟩⟩ <;> decide

/-- VENTED at level 5 under response level 4 (admitted), at 4 under 4 (not), at 0 with no VENT recorded (admitted),
and not VENTED. -/
theorem witness_RecoverDirective :
    let vented (l : Nat) : State := { withHead { headIn .vented with ventLevel := l } with faults := raised }
    (Ready (vented 5) ∧ 0 < (vented 5).headA.ventLevel ∧ (vented 5).faults.level < (vented 5).headA.ventLevel) ∧
    (Ready (vented 4) ∧ 0 < (vented 4).headA.ventLevel ∧
      ¬ (vented 4).faults.level < (vented 4).headA.ventLevel) ∧
    (Ready (vented 0) ∧ (vented 0).headA.ventLevel = 0 ∧
      ∀ r ∈ (vented 0).faults.current.toList ++ (vented 0).faults.stack, r.reaction ≠ .vent) ∧
    (Ready busy ∧ busy.headA.mode ≠ .vented) := by
  refine ⟨⟨⟨?_, ?_⟩, ?_⟩, ⟨⟨?_, ?_⟩, ?_⟩, ⟨⟨?_, ?_⟩, ?_⟩, ⟨⟨?_, ?_⟩, ?_⟩⟩ <;> decide

/-- Timer 1 with advance 1 reaches the duration 2: step 0 of two, the last step, a loop back to step 0 with one repeat
left, a used-up loop in step 0 and in the last step, and step 0 before a hold point. -/
theorem witness_StepExitRows :
    let last := withHead { running with current := some 1 }
    let loop (j n : Nat) : State := withHead { running with
      current := some j, loopCounter := n
      steps := running.steps.set! j (some (stepOf .time .continue .absent (some ⟨0, 1⟩))) }
    let due (s : State) (j : Nat) : Prop := Ready s ∧ s.headA.mode = .running ∧ s.headA.current = some j ∧
      ∃ st ∈ s.headA.step j, st.exitKind = .time ∧ st.duration ≤ s.headA.timer + s.ring.advance
    let point := pointAt 1 (withHead running)
    (due (withHead running) 0 ∧ holdPointHit (withHead running) .a 1 = false ∧
      0 + 1 < (withHead running).headA.stepCount) ∧
    (due last 1 ∧ last.headA.stepCount ≤ 1 + 1) ∧
    (due (loop 1 0) 1 ∧ (loop 1 0).headA.loopCounter < 1 ∧ holdPointHit (loop 1 0) .a 0 = false) ∧
    (due (loop 0 1) 0 ∧ 1 ≤ (loop 0 1).headA.loopCounter ∧ 0 + 1 < (loop 0 1).headA.stepCount) ∧
    (due (loop 1 1) 1 ∧ 1 ≤ (loop 1 1).headA.loopCounter ∧ (loop 1 1).headA.stepCount ≤ 1 + 1) ∧
    (due point 0 ∧ ArbiterInv point.faults ∧ point.faults.sources[Src.holdPoint].reaction = .notify ∧
      holdPointHit point .a 1 = true) := by
  refine ⟨⟨⟨⟨?_, ?_⟩, ?_, ?_, _, rfl, ?_⟩, ?_⟩, ⟨⟨⟨?_, ?_⟩, ?_, ?_, _, rfl, ?_⟩, ?_⟩,
    ⟨⟨⟨?_, ?_⟩, ?_, ?_, _, rfl, ?_⟩, ?_⟩, ⟨⟨⟨?_, ?_⟩, ?_, ?_, _, rfl, ?_⟩, ?_⟩,
    ⟨⟨⟨?_, ?_⟩, ?_, ?_, _, rfl, ?_⟩, ?_⟩, ⟨⟨⟨?_, ?_⟩, ?_, ?_, _, rfl, ?_⟩, arbiterInv_of _ ?_, ?_⟩⟩ <;> decide

/-- A REMOVAL step one unit below its target of 1 nm in Z4, at its cap: ABORT, CONTINUE, CONTINUE on a step whose loop
has a repeat left, and CONTINUE on the last step. -/
theorem witness_StepExitRows_cap :
    let capped (act : CapAction) (loop : Option LoopField) (n : Nat) : State := withHead { running with
      steps := running.steps.set 0 (some (stepOf .removal act .absent loop))
      stepAcc := Vector.replicate 7 65535, stepCount := n }
    let due (s : State) (act : CapAction) (loop : Option LoopField) : Prop := Ready s ∧ ArbiterInv s.faults ∧
      s.headA.mode = .running ∧ s.headA.current = some 0 ∧
      s.faults.sources[Src.stepCap .a].reaction = .notify ∧ s.headA.stepAcc[(3 : Fin 7)] < 1 * 65536 ∧
      ∃ st ∈ s.headA.step 0, st.exitKind = .removal ∧ st.refZone = some 3 ∧ st.removalTarget = some 1 ∧
        st.capAction = act ∧ st.loop = loop ∧ st.duration ≤ s.headA.timer + s.ring.advance
    due (capped .abort none 2) .abort none ∧
    (due (capped .continue none 2) .continue none ∧ ((capped .continue none 2).headA.step 1).isSome = true ∧
      holdPointHit (capped .continue none 2) .a 1 = false) ∧
    (due (capped .continue (some ⟨0, 1⟩) 2) .continue (some ⟨0, 1⟩) ∧
      (capped .continue (some ⟨0, 1⟩) 2).headA.loopCounter < 1) ∧
    (due (capped .continue none 1) .continue none ∧ (capped .continue none 1).headA.stepCount ≤ 0 + 1) := by
  refine ⟨⟨⟨?_, ?_⟩, arbiterInv_of _ ?_, ?_, ?_, ?_, ?_, _, rfl, ?_⟩,
    ⟨⟨⟨?_, ?_⟩, arbiterInv_of _ ?_, ?_, ?_, ?_, ?_, _, rfl, ?_⟩, ?_⟩,
    ⟨⟨⟨?_, ?_⟩, arbiterInv_of _ ?_, ?_, ?_, ?_, ?_, _, rfl, ?_⟩, ?_⟩,
    ⟨⟨⟨?_, ?_⟩, arbiterInv_of _ ?_, ?_, ?_, ?_, ?_, _, rfl, ?_⟩, ?_⟩⟩ <;> decide

/-- Step 0 RUNNING, its timer at k of 2: ENDPOINT with its flag, REMOVAL at its target of 1 nm and one unit below it,
TIME going on and ended, CAP with both actions; entered on the frame; another state. A taken frame without a directive.
-/
theorem witness_FrameExitEvaluation :
    let at_ (kind : ExitKind) (act : CapAction) (k acc : Nat) (flag : Bool) : HeadUnit := { running with
      steps := running.steps.set 0 (some (stepOf kind act .absent none))
      timer := k, stepAcc := Vector.replicate 7 acc, endpoint := flag }
    let inStep (u : HeadUnit) : Prop := u.current = some 0 ∧ u.mode = .running ∧ u.fresh = false
    let exits (u : HeadUnit) (p : StepEntry → Nat → Prop) : Prop := inStep u ∧ ∃ st ∈ u.step 0,
      p st (u.timer + (withHead u).ring.advance)
    exits (at_ .endpoint .abort 0 0 true) (fun st _ => st.exitKind = .endpoint) ∧
    (exits (at_ .removal .abort 0 65536 false) (fun st n => st.exitKind = .removal ∧ st.refZone = some 3 ∧
        st.removalTarget = some 1 ∧ n < st.duration) ∧
      1 * 65536 ≤ (at_ .removal .abort 0 65536 false).stepAcc[(3 : Fin 7)]) ∧
    (exits (at_ .removal .abort 0 65535 false) (fun st n => st.exitKind = .removal ∧ n < st.duration) ∧
      (at_ .removal .abort 0 65535 false).stepAcc[(3 : Fin 7)] < 1 * 65536) ∧
    exits (at_ .time .abort 0 0 false) (fun st n => st.exitKind = .time ∧ n < st.duration) ∧
    exits (at_ .time .abort 1 0 false) (fun st n => st.exitKind = .time ∧ st.duration ≤ n) ∧
    exits (at_ .endpoint .abort 1 0 false) (fun st n => st.exitKind ≠ .time ∧ st.duration ≤ n ∧ st.capAction = .abort) ∧
    exits (at_ .endpoint .continue 1 0 false) (fun st n => st.exitKind ≠ .time ∧ st.duration ≤ n ∧
      st.capAction = .continue) ∧
    (ArbiterInv (withHead running).faults ∧ (withHead running).due = [] ∧
      (withHead running).faults.sources[Src.stepCap .a].reaction = .notify) ∧
    ({ running with fresh := true } : HeadUnit).fresh = true ∧ (headIn .held).mode ≠ .running ∧
    (HeadsInv (withHead (at_ .time .abort 0 0 false)) ∧ HeadsInv (withHead (at_ .removal .abort 0 65536 false)) ∧
      ArmedInv (slurryIn none Parties.empty) (at_ .removal .abort 0 65536 false)) ∧
    (Ready (withHead (at_ .time .abort 0 0 false)) ∧ (withHead (at_ .time .abort 0 0 false)).ring.heldU = [] ∧
      frameValid (cycleFrame 8) = true ∧ frameKind (cycleFrame 8) = 1 ∧
      (withHead running).ring.last ≠ some (frameCycle (cycleFrame 8)) ∧
      ownHeadSlot (withHead running) .a (frameSlots (cycleFrame 8)) = none) := by
  refine ⟨⟨?_, _, rfl, ?_⟩, ⟨⟨?_, _, rfl, ?_⟩, ?_⟩, ⟨⟨?_, _, rfl, ?_⟩, ?_⟩, ⟨?_, _, rfl, ?_⟩, ⟨?_, _, rfl, ?_⟩,
    ⟨?_, _, rfl, ?_⟩, ⟨?_, _, rfl, ?_⟩, ⟨arbiterInv_reset, ?_⟩, ?_, ?_,
    ⟨headsInv_of _ ?_, headsInv_of _ ?_, armed_of ?_⟩, ⟨?_, ?_⟩, ?_⟩
  all_goals first | decide +kernel | (intro h; cases h <;> decide +kernel)

/-- RUNNING within limits that ARM accepts, and RAMPDOWN; one eligible profile entry between a stale and an absent one;
a pad term and a coupling term at work. -/
theorem witness_CommandsFollowThePipeline :
    let u : HeadUnit := { running with
      padGain := 40, coupling := (Vector.replicate 7 (Vector.replicate 7 0)).set 0 (#v[0, 1024, 0, 0, 0, 0, 0])
      zoneConf := Vector.replicate 8 ⟨500, 6000, 800, 300, 300, 2, some (0, 2)⟩
      zones := Vector.replicate 8 ⟨2000, 250, 1900, 0, false, false, 0, 0, false⟩ }
    let c : Conditioner := { Conditioner.reset with
      profile := ((Vector.replicate 32 none).set 0 (some ⟨7, 60000⟩)).set 1 (some ⟨9, 60001⟩) }
    (u.mode.inUse = true ∧ u.mode.inStep = true ∧ zoneConfigOk u = true) ∧
    ((u.compute c 1).zones[(7 : Zone)]).command = 2000 ∧ ((u.compute c 1).zones[(1 : Zone)]).command = 1983 ∧
    ((u.compute c 1).zones[(0 : Zone)]).command = 1983 - 496 ∧ ((u.compute c 1).zones[(0 : Zone)]).dev = -7 ∧
    (headIn .rampdown).mode.inUse = true := by decide

/-- VENTED, READY, and RAMPDOWN one ramp of 300 pu away from its release pressure, and two away. -/
theorem witness_FixedCommandsAndCompletion :
    (headIn .vented).mode.inUse = false ∧ (headIn .ready).mode.inUse = false ∧
    ((headIn .rampdown).compute Conditioner.reset 1).mode = .rampdown ∧
    (({ headIn .rampdown with zones := Vector.replicate 8 ⟨800, 300, 1100, 0, false, false, 0, 0, false⟩ } :
      HeadUnit).compute Conditioner.reset 1).mode = .complete := by decide

/-- Z1 commanded 2000 pu reads 2301, one above its band of 300, at counter 1 of 2; the same on a matched return, with
2300, and with no readback; a head in another state. -/
theorem witness_TrackCheckCountsAndSets :
    let zones : Vector ZoneState 8 := Vector.replicate 8 ⟨2000, 250, 2000, 2000, false, false, 1, 0, false⟩
    let s := withHead { running with zones := zones }
    let read (v : Nat) : List Byte := slotFrame 7 20 0x20 0 (put16 v)
    let back (f : List Byte) (z : Zone) : Option Nat :=
      (boundPayload s.ring (.readback (.zone .a z)) (frameSlots f)).map fun p => le16 p 0
    (Ready s ∧ s.headA.mode.inStep = true ∧
      (s.headA.zoneConf[(0 : Zone)]).trackBand < distance 2301 (s.headA.zones[(0 : Zone)]).command ∧
      (s.headA.zoneConf[(0 : Zone)]).trackPersist ≤ (s.headA.zones[(0 : Zone)]).track + s.ring.advance) ∧
    (s.ring.heldD = [] ∧ frameValid (read 2301) = true ∧ frameKind (read 2301) = 1 ∧
      s.ring.last = some (frameCycle (read 2301)) ∧ back (read 2301) 0 = some 2301 ∧ back (read 2301) 1 = none) ∧
    (frameValid (read 2300) = true ∧ back (read 2300) 0 = some 2300 ∧
      ¬ (s.headA.zoneConf[(0 : Zone)]).trackBand < distance 2300 (s.headA.zones[(0 : Zone)]).command) ∧
    (headIn .ready).mode.inStep = false := by
  refine ⟨⟨⟨?_, ?_⟩, ?_⟩, ?_⟩ <;> decide +kernel

/-- A cycle frame with the pressure 3000 of head A's first zone at node 20 and its velocity 1000 at node 23. -/
def removalFrame (n : Nat) : List Byte :=
  withCrc ([1, 0] ++ put16 n ++ [2, 0] ++ put16 44 ++ [20, 0x20, 0, 0] ++ padTo 12 (put16 3000) ++
    [23, 0x20, 0, 0] ++ padTo 12 (put16 1000))

/-- An increment of 196 ru reaching the ceiling exactly raises the status; one unit below it does not. The same by a
matched return for a head RUNNING, and an unmatched one; a head in no use. -/
theorem witness_RemovalAdds :
    let at_ (x : Nat) : State :=
      let s := withHead { running with
        removalK := 1100, stepAcc := Vector.replicate 7 0, waferAcc := Vector.replicate 7 x }
      (s.setSlurry { s.slurry with presence := 256 }).setRing
        { s.ring with slotMap := slots.set 11 (some ⟨.readback (.velocity .a), 23, 0x20⟩) }
    let read (s : State) : State := accumulate 1 .a (fun _ => some 3000) (some 1000) s
    let full (s : State) : Bool := (s.faults.sources[Src.removalSaturated .a]).status
    let back (s : State) (k : ReadbackId) : Option Nat :=
      (boundPayload s.ring (.readback k) (frameSlots (removalFrame 7))).map fun p => le16 p 0
    let s := at_ (2 ^ 48 - 197)
    ArbiterInv s.faults ∧ ArbiterInv (at_ (2 ^ 48 - 198)).faults ∧ full (read s) = true ∧
    full (read (at_ (2 ^ 48 - 198))) = false ∧
    (passThrough s = false ∧ s.ring.heldD = [] ∧ frameValid (removalFrame 7) = true ∧ frameKind (removalFrame 7) = 1 ∧
      s.ring.last = some (frameCycle (removalFrame 7)) ∧ s.headA.mode.inUse = true ∧ s.headA.pendingStep = none ∧
      back s (.zone .a 0) = some 3000 ∧ back s (.velocity .a) = some 1000 ∧ back s (.zone .a 1) = none ∧
      full (after (.returnCycleFrame (removalFrame 7)) s) = true ∧
      full (after (.returnCycleFrame (removalFrame 7)) (at_ (2 ^ 48 - 198))) = false) ∧
    (frameValid (removalFrame 6) = true ∧ s.ring.last ≠ some (frameCycle (removalFrame 6))) ∧
    s.headB.mode.inUse = false := by
  refine ⟨arbiterInv_reset, arbiterInv_reset, ?_⟩
  decide +kernel

/-- An idle head beside the conditioner in the given state. -/
def withCond (c : Conditioner) : State := part (headIn .idle) c (slurryIn none Parties.empty)

/-- One state for each clause: barred, REPORT_HOLD, mid-program in and outside SINGLE_RESTART, LIFTING, PARKED with
every part met, without the pad, with an undefined segment, and with no program. -/
theorem witness_StartSweepDirective :
    let barred := { withCond (condIn .parked .single .protect) with
      faults := { Arbiter.reset with current := some ⟨6, 2, .retract⟩ } }
    let noPad := { withCond (condIn .parked .single .protect) with
      inputs := (withCond holding).inputs.set 3 ⟨.us100, [], some false, 0, false⟩ }
    let parked := withCond (condIn .parked .single .protect)
    let undefinedSegment := withCond { condIn .parked .single .protect with segCount := 1 }
    let noProgram := withCond { condIn .parked .single .protect with program := none }
    let p (s : State) (q : Program → Bool) : Bool := (s.cond.program.map q).getD false
    (passThrough barred = false ∧ barsSweep barred.faults = true) ∧
    (barsSweep (withCond holding).faults = false ∧ (withCond holding).cond.mode = .reportHold) ∧
    ((withCond (condIn .sweeping .singleRestart .protect)).cond.mode = .sweeping ∧
      p (withCond (condIn .sweeping .singleRestart .protect)) (·.mode == .singleRestart) = true) ∧
    ((withCond (condIn .traverse .single .protect)).cond.mode = .traverse ∧
      p (withCond (condIn .traverse .single .protect)) (·.mode == .single) = true) ∧
    (withCond (condIn .lifting .single .protect)).cond.mode = .lifting ∧
    (parked.cond.mode = .parked ∧ p parked parked.cond.segmentsOk = true ∧ padAndDisk parked = true) ∧
    (p noPad noPad.cond.segmentsOk = true ∧ satisfied noPad Di.padPresent = false) ∧
    p undefinedSegment undefinedSegment.cond.segmentsOk = false ∧
    (passThrough noProgram = false ∧ barsSweep noProgram.faults = false ∧ noProgram.cond.mode = .parked ∧
      noProgram.cond.program = none) := by decide

/-- STOP_SWEEP by a tool controller that is no member, one of two members, and the last member away from PARKED and in
LIFTING; STEP_WAIT with the interval counter at 4 of 5, and TRAVERSE; the traverse timer at 7 of 8. -/
theorem witness_ConditionerDirectivesAndTimers :
    let demand (d : Parties) (m : CondMode) : State := withCond { condIn m .continuous .overwrite with demand := d }
    let wait := withCond { condIn .stepWait .stepped .protect with cont := .stepWait 1, interval := 4 }
    let late := withCond { condIn .traverse .continuous .protect with current := some 0, traverse := 7 }
    ((demand ⟨true, false, false⟩ .sweeping).cond.demand.tc = false ∧
      ((demand ⟨true, false, true⟩ .sweeping).cond.demand.tc = true ∧
        (demand ⟨true, false, true⟩ .sweeping).cond.demand.a = true) ∧
      ((demand ⟨false, false, true⟩ .sweeping).cond.demand = ⟨false, false, true⟩ ∧
        (demand ⟨false, false, true⟩ .sweeping).cond.mode ≠ .parked) ∧
      ((demand ⟨false, false, true⟩ .lifting).cond.demand = ⟨false, false, true⟩ ∧
        (demand ⟨false, false, true⟩ .lifting).cond.mode = .lifting) ∧
      passThrough (demand ⟨false, false, true⟩ .lifting) = false) ∧
    (passThrough wait = false ∧ wait.cond.mode = .stepWait ∧ wait.cond.cont = .stepWait 1 ∧
      (∃ p ∈ wait.cond.program, p.trigDirective = true ∧ p.trigInterval = true ∧
        p.interval ≤ min 65535 (wait.cond.interval + wait.ring.advance)) ∧ late.cond.mode ≠ .stepWait) ∧
    (Ready late ∧ ArbiterInv late.faults ∧ late.cond.mode = .traverse ∧ late.cond.timeoutMark = false ∧
      (∃ p ∈ late.cond.program, p.traverseLimit ≤ late.cond.traverse + late.ring.advance) ∧
      (late.faults.sources[Src.condTraverseTimeout]).reaction = .hold) := by
  refine ⟨?_, ⟨?_, ?_, ?_, ⟨_, rfl, ?_⟩, ?_⟩, ⟨?_, ?_⟩, arbiterInv_of _ ?_, ?_, ?_, ⟨_, rfl, ?_⟩, ?_⟩ <;> decide

/-- The dwell at 2 of 3 in segment 0 and in the end segment 1, in each program mode: with no readback, with one, and
with one behind a pending sample. -/
theorem witness_DwellEndCapturesSample :
    let sweep (k : Nat) (mode : SweepMode) (x : Option PadSample) : State :=
      withCond { condIn .sweeping mode .protect with current := some k, dwell := 2, pendingSample := x }
    let read (s : State) : State := s.setRing { s.ring with store := s.ring.store.set 18 ⟨150, 2000, true, 0⟩ }
    let ends (s : State) (k : Nat) (mode : SweepMode) : Prop := passThrough s = false ∧
      s.cond.mode = .sweeping ∧ s.cond.current = some k ∧
      ((s.cond.segment k).map fun x => decide (x.dwell ≤ min 65535 (s.cond.dwell + s.ring.advance))) = some true ∧
      s.cond.program.map (·.mode) = some mode ∧ s.cond.program.map (·.endSeg) = some 1 ∧
      s.cond.program.map (·.report) = some .protect
    (∀ m ∈ [SweepMode.single, .singleRestart, .continuous, .stepped],
      ends (sweep 0 m none) 0 m ∧ ends (sweep 1 m none) 1 m) ∧
    (condReadback (sweep 0 .continuous none)).taken = false ∧
    (ends (read (sweep 1 .stepped none)) 1 .stepped ∧ (condReadback (read (sweep 1 .stepped none))).taken = true) ∧
    (ends (read (sweep 1 .single (some ⟨1, 9, 9, 9⟩))) 1 .single ∧
      (read (sweep 1 .single (some ⟨1, 9, 9, 9⟩))).cond.pendingSample.isSome = true) := by decide

/-- Each state of the arm command's table, with a last command to keep. -/
theorem witness_ArmCommandByState :
    let c (m : CondMode) (l : Option Leg) : State := withCond { condIn m .stepped .protect with
      current := some 0, leg := l, cont := .stepWait 1, lastCmd := some ⟨100, 0, 90⟩ }
    (c .parked none).cond.mode = .parked ∧ ((c .traverse none).cond.segment 0).isSome = true ∧
    (c .sweeping (some .toEnd)).cond.leg = some .toEnd ∧ (c .sweeping (some .toStart)).cond.leg = some .toStart ∧
    (c .stepWait none).cond.mode = .stepWait ∧ (c .stepWait none).cond.lastCmd.isSome = true ∧
    (c .parked none).cond.program.isSome = true ∧
    (withCond { condIn .parked .single .protect with program := none }).cond.program = none := by decide

/-- The radius one past the tolerance of 5 and at it, in TRAVERSE, in SWEEPING on both legs and in LIFTING; LIFTING with
a start request and a member, every part met and without the pad. -/
theorem witness_ArrivalsMoveTheArm :
    let c (m : CondMode) (l : Option Leg) (d : Parties) : State := withCond { condIn m .continuous .protect with
      current := some 0, leg := l, startReq := d.tc, demand := d }
    let noPad := { c .lifting none ⟨false, false, true⟩ with
      inputs := (withCond holding).inputs.set 3 ⟨.us100, [], some false, 0, false⟩ }
    let off (s : State) (v : Nat) : Option Nat := s.cond.program.map fun p => distance v (armCommand p s).radius
    let none_ := Parties.empty
    ((c .traverse none none_).cond.program.map (·.tolerance) = some 5 ∧ off (c .traverse none none_) 106 = some 6 ∧
      off (c .traverse none none_) 105 = some 5) ∧
    (off (c .sweeping (some .toEnd) none_) 195 = some 5 ∧ off (c .sweeping (some .toStart) none_) 105 = some 5) ∧
    (off (c .lifting none none_) 45 = some 5 ∧ (c .lifting none none_).cond.startReq = false) ∧
    ((c .lifting none ⟨false, false, true⟩).cond.startReq = true ∧
      (c .lifting none ⟨false, false, true⟩).cond.demand ≠ none_ ∧
      padAndDisk (c .lifting none ⟨false, false, true⟩) = true ∧
      (c .lifting none ⟨false, false, true⟩).cond.program.map
        (c .lifting none ⟨false, false, true⟩).cond.segmentsOk = some true) ∧
    (noPad.cond.startReq = true ∧ satisfied noPad Di.padPresent = false) ∧
    (c .parked none none_).cond.mode = .parked ∧
    (passThrough (c .traverse none none_) = false ∧ (c .traverse none none_).ring.heldD = [] ∧
      (c .traverse none none_).ring.last = some 7 ∧ (c .traverse none none_).cond.pendingSample = none) := by decide

/-- An idle head beside the slurry controller with the given blend and owners. -/
def withSlurry (x : Slurry) : State := part (headIn .idle) (condIn .parked .continuous .overwrite) x

/-- Head A HELD for its blend alone behind the tool controller's. -/
def waitingHead : State :=
  { withSlurry { slurryIn (some 0) ⟨false, false, true⟩ with waitA := some 1 } with
    headA := { running with mode := .held, causes := ⟨false, false, none, true⟩ } }

/-- Head B HELD for blend n alone beside it. -/
def waitingHeads (n : Nat) : State :=
  { waitingHead with
    slurry := { waitingHead.slurry with waitB := some n }
    headB := { running with mode := .held, causes := ⟨true, false, none, true⟩ } }

theorem waits_of {s : State} {h : Head} (x : (s.slurry.wait h).isSome = true →
    (s.head h).causes.blendWait = true ∧ (s.head h).pendingStep = none) : WaitsForBlendAlone s h := x

/-- Indices 2 (undefined) and 16 (outside the table); blend 1 against another blend's owner; granted from NONE; granted
with the tool controller the only owner, while head A waits for the blend that it selects. -/
theorem witness_SelectDirective :
    let s := withSlurry (slurryIn none Parties.empty)
    let other := withSlurry (slurryIn (some 0) ⟨true, false, false⟩)
    passThrough s = false ∧ (s.slurry.blends[2]?).join = none ∧ (s.slurry.blends[16]?).join = none ∧
    ((other.slurry.blends[1]?).join.isSome = true ∧ other.slurry.owners ≠ Parties.empty ∧
      other.slurry.blend ≠ some 1 ∧ other.slurry.owners ≠ ⟨false, false, true⟩) ∧
    ((s.slurry.blends[1]?).join.isSome = true ∧ s.slurry.owners = Parties.empty ∧ WaitsForBlendAlone s .a ∧
      WaitsForBlendAlone s .b) ∧
    ((waitingHead.slurry.blends[1]?).join.isSome = true ∧ waitingHead.slurry.owners = ⟨false, false, true⟩ ∧
      waitingHead.slurry.waitA = some 1 ∧ WaitsForBlendAlone waitingHead .a ∧ WaitsForBlendAlone waitingHead .b) := by
  refine ⟨?_, ?_, ?_, ?_, ⟨?_, ?_, waits_of ?_, waits_of ?_⟩, ?_, ?_, ?_, waits_of ?_, waits_of ?_⟩ <;> decide

/-- No owner, one of two, the only one; the only one with head A waiting, with head B as well for the same blend, and
for another; and with head B waiting alone. -/
theorem witness_ReleaseDirective :
    let alone (s : State) : Prop := passThrough s = false ∧ s.slurry.owners.tc = true ∧ WaitsForBlendAlone s .a ∧
      WaitsForBlendAlone s .b
    let only (s : State) : Prop := alone s ∧ s.slurry.owners = ⟨false, false, true⟩
    let two := withSlurry (slurryIn (some 1) ⟨true, false, true⟩)
    let one := withSlurry (slurryIn (some 1) ⟨false, false, true⟩)
    let b : State := { waitingHeads 1 with
      headA := headIn .idle, slurry := { (waitingHeads 1).slurry with waitA := none } }
    (withSlurry (slurryIn none Parties.empty)).slurry.owners.tc = false ∧
    (alone two ∧ two.slurry.owners.a = true ∧ two.slurry.waitA = none ∧ two.slurry.waitB = none) ∧
    (only one ∧ one.slurry.waitA = none ∧ one.slurry.waitB = none) ∧
    (only waitingHead ∧ waitingHead.slurry.waitA = some 1 ∧ waitingHead.slurry.waitB = none ∧
      waitingHead.headA.mode = .held ∧ waitingHead.headA.causes = ⟨false, false, none, true⟩) ∧
    (only (waitingHeads 1) ∧ (waitingHeads 1).slurry.waitA = some 1 ∧ (waitingHeads 1).slurry.waitB = some 1) ∧
    (only (waitingHeads 2) ∧ ∀ m ∈ (waitingHeads 2).slurry.waitB, m ≠ 1) ∧
    (only b ∧ b.slurry.waitA = none ∧ b.slurry.waitB = some 1) := by
  refine ⟨?_, ⟨⟨?_, ?_, waits_of ?_, waits_of ?_⟩, ?_⟩, ⟨⟨⟨?_, ?_, waits_of ?_, waits_of ?_⟩, ?_⟩, ?_⟩,
    ⟨⟨⟨?_, ?_, waits_of ?_, waits_of ?_⟩, ?_⟩, ?_⟩, ⟨⟨⟨?_, ?_, waits_of ?_, waits_of ?_⟩, ?_⟩, ?_⟩,
    ⟨⟨⟨?_, ?_, waits_of ?_, waits_of ?_⟩, ?_⟩, ?_⟩, ⟨⟨?_, ?_, waits_of ?_, waits_of ?_⟩, ?_⟩, ?_⟩ <;> decide

/-- Head A's undecided claim for blend 1: with no owner, and against head B's blend 0. -/
theorem witness_ClaimsAreDecided :
    let s (b : Option Nat) (o : Parties) : State := withSlurry { slurryIn b o with undecA := some 1 }
    let asked (s : State) : Prop := s.slurry.undecided .a = some 1 ∧ s.slurry.wait .a = none ∧
      s.slurry.wait (otherHead .a) = none ∧ (s.head .a).causes.blendWait = false
    (asked (s none Parties.empty) ∧ (s none Parties.empty).slurry.owners.isEmpty = true) ∧
    (asked (s (some 0) ⟨false, true, false⟩) ∧ (s (some 0) ⟨false, true, false⟩).slurry.blend ≠ some 1 ∧
      (s (some 0) ⟨false, true, false⟩).slurry.owners ≠ Parties.empty.put (.head .a) true) := by
  refine ⟨⟨⟨?_, ?_, ?_, ?_⟩, ?_⟩, ⟨?_, ?_, ?_, ?_⟩, ?_⟩ <;> decide

/-- One push, as many as the line holds, and one more; no blend, and blend 1. -/
theorem witness_FlowsArriveAfterTheDelay :
    (1 ≤ 1 ∧ 0 < (ChannelFlow.reset 4).line.length) ∧ (1 ≤ 4 ∧ 4 - 1 < (ChannelFlow.reset 4).line.length) ∧
    (1 ≤ 5 ∧ ¬ 5 - 1 < (ChannelFlow.reset 4).line.length) ∧
    (withSlurry (slurryIn none Parties.empty)).slurry.blend = none ∧
    (busy.slurry.blend = some 1 ∧ ((busy.slurry.blends[1]?).join).isSome = true) := by decide

/-- Channel 0 commanded 150 reads 129, one outside its band of 20, at 11 of 12; the same on a matched return, with 130,
and with no readback; a channel without the check. -/
theorem witness_FlowCheckCountsAndSets :
    let x := slurryIn (some 1) ⟨true, false, false⟩
    let x := { x with channels := x.channels.set 1 { ChannelConf.reset with flowCheck := false } }
    let u := withSlurry { x with flows := x.flows.set 0 ⟨150, [150, 150, 150, 150], 150, false, 11⟩ }
    let s := u.setRing { u.ring with slotMap := slots.set 11 (some ⟨.readback (.flow 0), 23, 0x20⟩) }
    let read (v : Nat) : List Byte := slotFrame 7 23 0x20 0 (put16 v)
    let back (f : List Byte) (c : Channel) : Option Nat :=
      (boundPayload s.ring (.readback (.flow c)) (frameSlots f)).map fun p => le16 p 0
    (Ready s ∧ ArbiterInv s.faults ∧ (s.slurry.channels[(0 : Channel)]).flowCheck = true ∧
      (s.slurry.channels[(0 : Channel)]).flowBand < distance 129 (s.slurry.flows[(0 : Channel)]).q ∧
      (s.slurry.channels[(0 : Channel)]).flowPersist ≤ (s.slurry.flows[(0 : Channel)]).dev + s.ring.advance ∧
      (s.faults.sources[Src.flowDeviation]).reaction = .hold) ∧
    (s.ring.heldD = [] ∧ frameValid (read 129) = true ∧ frameKind (read 129) = 1 ∧
      s.ring.last = some (frameCycle (read 129)) ∧ back (read 129) 0 = some 129 ∧ back (read 129) 1 = none) ∧
    (frameValid (read 130) = true ∧ back (read 130) 0 = some 130 ∧
      ¬ (s.slurry.channels[(0 : Channel)]).flowBand < distance 130 (s.slurry.flows[(0 : Channel)]).q) ∧
    (s.slurry.channels[(1 : Channel)]).flowCheck = false := by
  refine ⟨⟨⟨?_, ?_⟩, arbiterInv_of _ ?_, ?_⟩, ?_⟩ <;> decide +kernel

/-- A running channel at 500 of its compare 768, and a stopped one. -/
theorem witness_PulseEvents : passThrough busy = false ∧ (busy.pulse.ch[(0 : Channel)]).running = true ∧
    (busy.pulse.ch[(0 : Channel)]).first = false ∧
    (busy.pulse.ch[(0 : Channel)]).counter < (busy.pulse.ch[(0 : Channel)]).compare ∧
    (busy.pulse.ch[(0 : Channel)]).compare < 2 ^ (busy.slurry.channels[(0 : Channel)]).resolution ∧
    (busy.pulse.ch[(1 : Channel)]).running = false := by decide

/-- No level accepted yet; histories of one, two and three samples, and the rate OFF. -/
theorem witness_SamplesAreAccepted :
    let s (r : DiRate) (l : List Bool) : State :=
      { busy with inputs := busy.inputs.set 6 ⟨r, l, some true, 0, true⟩ }
    State.reset.inputs[(1 : InputId)].accepted = none ∧
    (s .off []).inputs[(6 : InputId)].rate = .off ∧ (s .us100 [true]).inputs[(6 : InputId)].history.length < 2 ∧
    (s .us100 [false, false]).inputs[(6 : InputId)].history = [false, false] ∧
    (s .us10 [true, false, false]).inputs[(6 : InputId)].history = [true, false, false] ∧
    (s .us10 []).inputs[(6 : InputId)].rate ≠ .off := by decide

/-- Every input asserted with head A in use, and with no head in use; LEAK deasserted. -/
theorem witness_InputEdges :
    let calm := withHead (headIn .ready)
    let dry := { busy with inputs := busy.inputs.set 2 ⟨.us100, [], some false, 0, true⟩ }
    Ready busy ∧ busy.inputs[Di.estopOk].accepted = some true ∧ busy.headA.mode.inUse = true ∧
      dry.inputs[Di.leak].accepted = some false ∧
      (calm.headA.mode.inUse = false ∧ calm.headB.mode.inUse = false ∧ calm.cond.mode = .parked) := by
  refine ⟨⟨?_, ?_⟩, ?_⟩ <;> decide

/-- PARKED with a start request and a member, the pad yet to be accepted; STEP_WAIT with the index to rise. -/
theorem witness_InputEdges_arm :
    let c : Conditioner := { condIn .parked .continuous .protect with
      startReq := true, demand := ⟨false, false, true⟩ }
    let s := { withCond c with inputs := (withCond c).inputs.set 3 ⟨.us100, [], some false, 0, true⟩ }
    let w := withCond { condIn .stepWait .stepped .protect with cont := .stepWait 1 }
    let w := { w with inputs := w.inputs.set 5 ⟨.us100, [], some false, 0, true⟩ }
    (passThrough s = false ∧ s.inputs[Di.padPresent].accepted = some false ∧
      s.inputs[Di.diskPresent].accepted = some true ∧ s.cond.mode = .parked ∧ s.cond.startReq = true ∧
      s.cond.demand.isEmpty = false ∧ (s.cond.program.map s.cond.segmentsOk) = some true) ∧
    (w.inputs[Di.platenIndex].accepted = some false ∧ w.cond.mode = .stepWait ∧ w.cond.cont = .stepWait 1 ∧
      w.cond.program.map (·.trigPlatenIndex) = some true) ∧
    ((withCond (condIn .sweeping .continuous .protect)).cond.mode ≠ .parked ∧
      (withCond (condIn .sweeping .continuous .protect)).inputs[Di.estopOk].accepted = some (!false)) := by decide

/-- A source one level above the response level 4, one at it, and one disabled; responses of every reaction whose scope
is head A, with head A in a step and head B not, and of the platen. -/
theorem witness_ReactionsReachTheBlocks :
    let disabled (i : SourceId) : Arbiter :=
      { raised with sources := raised.sources.set i { raised.sources[i] with enable := false } }
    (ArbiterInv busy.faults ∧ busy.faults.level = 4 ∧ busy.faults.sources[(3 : SourceId)].enable = true ∧
      busy.faults.sources[(3 : SourceId)].level = 5 ∧ busy.faults.sources[(7 : SourceId)].level = 4) ∧
    (ArbiterInv (disabled 3) ∧ (disabled 3).sources[(3 : SourceId)].enable = false) ∧
    HeadsInv busy ∧ SupplyInv busy ∧
    (scopeHead 6 = some Head.a ∧ scopeHead 2 = none) ∧
    ((busy.head .a).mode.inStep = true ∧ (busy.head .b).mode.inStep = false ∧ (busy.head .b).mode = .idle ∧
      busy.slurry.wait .b = none) ∧
    (HeadsInv (withHead (headIn .ready)) ∧ ((withHead (headIn .ready)).head .a).mode.inStep = false ∧
      ((withHead (headIn .ready)).head .a).mode ≠ .idle ∧ (withHead (headIn .ready)).slurry.wait .a = none) := by
  refine ⟨⟨arbiterInv_raised, ?_⟩, ⟨arbiterInv_of _ ?_, ?_⟩, heads_busy, supply_busy, ?_, ?_,
    heads_ready, ?_⟩ <;> decide

/-- Step 0 RUNNING at its end, TIME before a hold point at step 1 and REMOVAL at its cap with either action, with the
source of the exit at each reaction, one level above the response level. -/
theorem witness_ProvokedReactionsReachTheHead :
    let due (kind : ExitKind) (act : CapAction) (i : SourceId) (r : Reaction) : State :=
      let s := withHead { running with steps := running.steps.set 0 (some (stepOf kind act .absent none)) }
      s.setFaults { s.faults with sources := s.faults.sources.set i { s.faults.sources[i] with reaction := r } }
    let above (i : SourceId) (s : State) : Prop := s.faults.sources[i].enable = true ∧
      s.faults.level + 1 = s.faults.sources[i].level
    let reaches (s : State) (kind : ExitKind) (act : CapAction) : Prop := Ready s ∧ s.headA.mode = .running ∧
      s.headA.current = some 0 ∧ s.slurry.wait .b = none ∧ 0 + 1 < s.headA.stepCount ∧
      ∃ st ∈ s.headA.step 0, st.exitKind = kind ∧ st.capAction = act ∧ st.loop = none ∧
        st.duration ≤ s.headA.timer + s.ring.advance ∧ st.refZone = some 3 ∧ st.removalTarget = some 1
    ∀ r ∈ [Reaction.hold, .retract, .vent],
      let point := pointAt 1 (due .time .continue Src.holdPoint r)
      (∀ act ∈ [CapAction.abort, .continue], let s := due .removal act (Src.stepCap .a) r
        ArbiterInv s.faults ∧ HeadsInv s ∧ SupplyInv s ∧ reaches s .removal act ∧ above (Src.stepCap .a) s ∧
          s.headA.stepAcc[(3 : Fin 7)] < 1 * 65536 ∧ holdPointHit s .a 1 = false ∧ (s.headA.step 1).isSome = true) ∧
      (ArbiterInv point.faults ∧ HeadsInv point ∧ SupplyInv point ∧ reaches point .time .continue ∧
        above Src.holdPoint point ∧ holdPointHit point .a 1 = true) := by
  intro due above reaches r hr
  have h : r = .hold ∨ r = .retract ∨ r = .vent := by simpa using hr
  refine ⟨fun act hact => ?_, ?_⟩
  · have h' : act = .abort ∨ act = .continue := by simpa using hact
    rcases h with rfl | rfl | rfl <;> rcases h' with rfl | rfl <;>
      exact ⟨arbiterInv_of _ (by decide), headsInv_of _ (by intro h; cases h <;> decide),
        ⟨by decide, by decide, by decide, by decide⟩,
        ⟨⟨by decide, rfl⟩, rfl, rfl, rfl, by decide, _, rfl, rfl, rfl, rfl, by decide, rfl, rfl⟩, by decide,
        by decide, by decide, by decide⟩
  · rcases h with rfl | rfl | rfl <;>
      exact ⟨arbiterInv_of _ (by decide), headsInv_of _ (by intro h; cases h <;> decide),
        ⟨by decide, by decide, by decide, by decide⟩,
        ⟨⟨by decide, rfl⟩, rfl, rfl, rfl, by decide, _, rfl, rfl, rfl, rfl, by decide, rfl, rfl⟩, by decide,
        by decide⟩

/-- Z1's readback at age 20 of a limit of 20 passes it with this frame; at age 19 it does not. -/
theorem witness_RingEvents :
    let store (a : Nat) : Vector Readback 23 := (withHead running).ring.store.set 0 ⟨2000, 0, true, a⟩
    let s (a : Nat) : State := (withHead running).setRing { (withHead running).ring with store := store a }
    let past (s : State) : Bool := (slotFor s.ring (.readback (.zone .a 0))).isSome &&
      decide (s.ring.staleLimit < min 255 ((storedReadback s (.zone .a 0)).age + 1)) && ownerInUse s (.zone .a 0)
    Ready (s 20) ∧ past (s 20) = true ∧ past (s 19) = false := by
  refine ⟨⟨?_, ?_⟩, ?_⟩ <;> decide

/-- A running timer below level 7, at it, and an expired timer. -/
theorem witness_RingEvents_gap :
    let s := withHead running
    let gap (g : GapTimer) : State := s.setRing { s.ring with gap := g }
    let top : State := (gap (.running 4999)).setFaults { s.faults with current := some ⟨7, 0, .vent⟩ }
    (Ready (gap (.running 4999)) ∧ ArbiterInv (gap (.running 4999)).faults ∧
      (gap (.running 4999)).ring.gap = .running 4999 ∧ (gap (.running 4999)).faults.level < 7) ∧
    (ArbiterInv top.faults ∧ top.faults.level = 7) ∧ ∀ n, (gap .expired).ring.gap ≠ .running n := by
  refine ⟨⟨⟨?_, ?_⟩, arbiterInv_of _ ?_, ?_⟩, ⟨arbiterInv_of _ ?_, ?_⟩, nofun⟩ <;> decide

/-! ### Frames -/

/-- Frames held at U alone, and at D alone: a return of cycle 7 that arrived while 7 was the last taken number, and one
that arrived while 6 was; 8 has been taken since. -/
def heldIn (u d : List HeldFrame) : State :=
  busy.setRing { busy.ring with heldU := u, heldD := d, last := some 8 }

/-- The moment of an arrival while cycle n was the last one taken. -/
def arrivedAt (n : BitVec 16) : Arrival := { arrivalOf busy with last := some n }

/-- At U a frame of cycle 9, 16 and 17 behind 8: an advance of 1, of 8, and a discontinuity; at U the last number again;
with one held in each direction; and in pass-through address. -/
theorem witness_HeldFramesAreTakenUp :
    let x (n : Nat) : HeldFrame := ⟨cycleFrame n, arrivedAt 8⟩
    let y (n : BitVec 16) : HeldFrame := ⟨cycleFrame 7, arrivedAt n⟩
    let cycle (z : HeldFrame) : Prop := frameValid z.frame = true ∧ frameKind z.frame = 1
    let both := heldIn [x 9] [y 7]
    (∀ n ∈ [9, 16, (17 : Nat)], (heldIn [x n] []).pending = [] ∧ (heldIn [x n] []).ring.heldU = [x n] ∧
      passThrough (heldIn [x n] []) = false ∧ cycle (x n) ∧
      (heldIn [x n] []).ring.last ≠ some (frameCycle (x n).frame) ∧
      ((frameCycle (x n).frame).toNat + 65536 - 8) % 65536 = n - 8) ∧
    ((heldIn [x 9] []).ring.heldD = [] ∧ ownHeadSlot (heldIn [x 9] []) .a (frameSlots (x 9).frame) = none ∧
      ((x 9).arrival.mode .a).inUse = true ∧ ((x 9).arrival.mode .b).inUse = false) ∧
    (cycle (x 8) ∧ (heldIn [x 8] []).ring.last = some (frameCycle (x 8).frame)) ∧
    (both.ring.heldU = [x 9] ∧ both.ring.heldD = [y 7] ∧ passThrough both = false ∧ cycle (y 7) ∧
      (y 7).arrival.last = some (frameCycle (y 7).frame)) ∧
    passThrough { both with address := 63 } = true ∧
    ((heldIn [] [y 7, y 6]).ring.heldU = [] ∧ (heldIn [] [y 7, y 6]).ring.heldD = [y 7, y 6] ∧
      passThrough (heldIn [] [y 7]) = false ∧ (heldIn [] [y 7]).ring.last ≠ some (frameCycle (y 7).frame) ∧
      (y 6).arrival.last ≠ some (frameCycle (y 6).frame)) := by decide +kernel

/-- R172: a return that waited is matched by the last taken number at its arrival, 7, though 8 has been taken since. -/
theorem test_waiting_return_matched :
    (match step (heldIn [] [⟨cycleFrame 7, arrivedAt 7⟩]) with
      | .next t => t.ring.outU.map fun g => g.getD 1 0
      | _ => none) = some 1 ∧
    (match step (heldIn [] [⟨cycleFrame 7, arrivedAt 6⟩]) with
      | .next t => t.ring.outU.map fun g => g.getD 1 0
      | _ => none) = some 0 := by decide +kernel

/-- A valid frame behind none, and cycles 8, 15 and 16 behind cycle 7: an advance of 1, of 8, and a discontinuity; a
head directive slot with its count unheld, held alike, and held otherwise with an unknown code; conditioner and slurry
directive slots; no slot. -/
theorem witness_OutboundFrameTaken :
    let counted (c : Option (BitVec 4)) : State := busy.setHead .a { busy.headA with dirCount := c }
    let head := ownFrame 8 kindHeadDirective 0 [9, 3]
    let cond := ownFrame 8 kindCondDirective 0 [4, 3]
    let slurry := ownFrame 8 kindSlurryDirective 0 [3, 3]
    passThrough busy = false ∧ busy.ring.heldU = [] ∧
    frameValid (cycleFrame 8) = true ∧ frameKind (cycleFrame 8) = 1 ∧
    (∀ n ∈ [8, 15, (16 : Nat)], frameValid (cycleFrame n) = true ∧ frameKind (cycleFrame n) = 1 ∧
      busy.ring.last ≠ some (frameCycle (cycleFrame n)) ∧
      ((frameCycle (cycleFrame n)).toNat + 65536 - 7) % 65536 = n - 7) ∧
    busy.ring.last = some 7 ∧ Ring.reset.last = none ∧
    busy.headA.mode.inUse = true ∧ busy.headB.mode.inUse = false ∧ SlotMapInv busy ∧
    ownHeadSlot busy .a (frameSlots (cycleFrame 8)) = none ∧
    (frameValid head = true ∧ frameKind head = 1 ∧
      (ownHeadSlot busy .a (frameSlots head)).map slotCount = some 3 ∧
      (ownHeadSlot busy .a (frameSlots head)).map slotCode = some 9 ∧
      (counted none).headA.dirCount = none ∧ (counted (some 3)).headA.dirCount = some 3 ∧
      (counted (some 2)).headA.dirCount = some 2) ∧
    (frameValid cond = true ∧ (ownSlot busy kindCondDirective (frameSlots cond)).map slotCode = some 4) ∧
    (frameValid slurry = true ∧ (ownSlot busy kindSlurryDirective (frameSlots slurry)).map slotCode = some 3) ∧
    busy.cond.program.isSome = true ∧ busy.cond.mode = .parked := by
  refine ⟨?_, ?_, ?_, ?_, ?_, ?_, ?_, ?_, ?_, slotMap_busy, ?_⟩ <;> decide +kernel

/-- Step 0 RUNNING, not at its end, beside the given blocks; head B READY. -/
def settled (c : Conditioner) (x : Slurry) : State :=
  { part { running with timer := 0 } c x with headB := headIn .ready }

theorem heads_settled (c : Conditioner) (x : Slurry) (hx : x.owners.b = false ∧ x.waitA = none ∧ x.waitB = none ∧
    x.undecB = none) : HeadsInv (settled c x) := by
  obtain ⟨ho, ha, hb, hu⟩ := hx
  refine headsInv_of _ fun h => ?_
  cases h <;> simp [settled, part, State.head, running, headIn, HeadUnit.reset, HeadMode.inStep, Slurry.wait,
    Slurry.undecided, Parties.has, HoldCauses.none, HoldCauses.isEmpty, ha, hb, hu, ho]

theorem goesOn_settled (c : Conditioner) (x : Slurry) :
    GoesOn 1 (settled c x).headA ∧ GoesOn 1 (settled c x).headB := by
  have h : GoesOn 1 { running with timer := 0 } := .inr ⟨0, rfl, _, rfl, by decide, by decide⟩
  exact ⟨h, .inl (by decide : HeadMode.ready ≠ .running)⟩

/-- A frame of cycle 8 that changes no status and no response, with step 0 at 0 of 2: the dwell at 1 and 2 of 3, the
interval at 3 and 4 of 5, the traverse timer at 6 of 8, no program; head A's claim undecided, and its directive count
held alike. -/
theorem witness_FrameRunsTheBlocks :
    let c (m : CondMode) (n : Nat) : Conditioner := { condIn m .stepped .overwrite with
      current := some 0, dwell := n, interval := n, traverse := n, cont := .stepWait 1 }
    let x : Slurry := { slurryIn none Parties.empty with undecA := some 1 }
    let taken (s : State) (f : List Byte) : Prop := passThrough s = false ∧ s.due = [] ∧ s.ring.heldU = [] ∧
      frameValid f = true ∧ frameKind f = 1 ∧ s.ring.last ≠ some (frameCycle f) ∧
      (after (.outboundCycleFrame f) s).faults = s.faults
    let f := ownFrame 8 kindHeadDirective 0 [2, 3]
    let told (s : State) : State := s.setHead .a { s.headA with dirCount := some 3 }
    (∀ p ∈ [(CondMode.sweeping, 1), (.sweeping, 2), (.stepWait, 3), (.stepWait, 4), (.traverse, 6), (.lifting, 0)],
      taken (settled (c p.1 p.2) x) (cycleFrame 8)) ∧
    taken (told (settled (c .parked 0) x)) f ∧
    (ownHeadSlot (told (settled (c .parked 0) x)) .a (frameSlots f)).map slotCount = some 3 ∧
    (∀ m n, HeadsInv (settled (c m n) x) ∧
      (GoesOn 1 (settled (c m n) x).headA ∧ GoesOn 1 (settled (c m n) x).headB) ∧
      (settled (c m n) x).headA.pendingStep = none ∧ (settled (c m n) x).headB.pendingStep = none) := by
  refine ⟨?_, ?_, ?_, fun m n => ⟨heads_settled _ _ ⟨rfl, rfl, rfl, rfl⟩, goesOn_settled _ _, rfl, rfl⟩⟩ <;>
    decide +kernel

/-- START from READY and HOLD from RUNNING; START_SWEEP from PARKED; SELECT of blend 1 with no owner: each with a count
that was not held. -/
theorem witness_FrameDirectivesAct :
    let s : State := settled { condIn .parked .stepped .overwrite with dirCount := some 2 }
      { slurryIn none Parties.empty with dirCount := some 2 }
    let told (u : HeadUnit) : State := withHead { u with dirCount := some 2 }
    let taken (s : State) (f : List Byte) : Prop := passThrough s = false ∧ s.due = [] ∧ s.ring.heldU = [] ∧
      frameValid f = true ∧ frameKind f = 1 ∧ s.ring.last ≠ some (frameCycle f) ∧
      (after (.outboundCycleFrame f) s).faults = s.faults
    let fresh (x : Option (List Byte)) (code : Nat) : Prop := x.map slotCode = some code ∧ x.map slotCount = some 3
    let head (code : Byte) := ownFrame 8 kindHeadDirective 0 [code, 3]
    let cond := ownFrame 8 kindCondDirective 0 [1, 3]
    let slurry := ownFrame 8 kindSlurryDirective 0 [1, 3, 1]
    let start := told (headIn .ready)
    let hold := told { running with timer := 0 }
    (taken start (head 1) ∧ fresh (ownHeadSlot start .a (frameSlots (head 1))) 1 ∧
      (after (.outboundCycleFrame (head 1)) start).headA.outcome = some .taken) ∧
    (taken hold (head 2) ∧ fresh (ownHeadSlot hold .a (frameSlots (head 2))) 2 ∧
      (after (.outboundCycleFrame (head 2)) hold).headA.mode = .held) ∧
    (taken s cond ∧ fresh (ownSlot s kindCondDirective (frameSlots cond)) 1 ∧
      (after (.outboundCycleFrame cond) s).cond.mode = .traverse) ∧
    (taken s slurry ∧ fresh (ownSlot s kindSlurryDirective (frameSlots slurry)) 1 ∧
      (after (.outboundCycleFrame slurry) s).slurry.blend = some 1) ∧
    (HeadsInv start ∧ HeadsInv hold ∧ HeadsInv s) ∧ start.headB.mode.inStep = false ∧ start.slurry.undecA = none ∧
    (GoesOn 1 s.headA ∧ GoesOn 1 s.headB) ∧ (ownHeadSlot s .a (frameSlots cond) = none ∧
      ownHeadSlot s .b (frameSlots cond) = none ∧ ownHeadSlot s .a (frameSlots slurry) = none ∧
      ownHeadSlot s .b (frameSlots slurry) = none) := by
  refine ⟨?_, ?_, ?_, ?_, ⟨headsInv_of _ ?_, headsInv_of _ ?_, heads_settled _ _ ⟨rfl, rfl, rfl, rfl⟩⟩, ?_, ?_,
    goesOn_settled _ _, ?_⟩
  all_goals first | decide +kernel | (intro h; cases h <;> decide +kernel)

/-- An unmatched return with a slot of the part's own for each report, at its first and last index and the first index
that selects no contents, and the part status. -/
theorem witness_ReportsAreLaidOut :
    let slot (kind index : Byte) : Prop :=
      let f := ownFrame 6 kind index []
      frameValid f = true ∧ frameKind f = 1 ∧ busy.ring.last ≠ some (frameCycle f) ∧ 0 < frameSlotCount f ∧
        (slotOf f 0).getD 0 0 = ownByte busy ∧ (slotOf f 0).getD 1 0 = kind ∧ (slotOf f 0).getD 2 0 = index
    passThrough busy = false ∧ busy.ring.heldD = [] ∧ (completed false).summary.isSome = true ∧
    (∀ n ∈ [0, 1, (2 : Byte)], slot kindHeadStatus n) ∧ (∀ n ∈ [0, 7, 8, 128, (135 : Byte)], slot kindHeadSummary n) ∧
    (∀ n ∈ [0, 2, (3 : Byte)], slot kindCondReport n) ∧ (∀ n ∈ [0, 3, (4 : Byte)], slot kindSlurryReport n) ∧
    slot kindPartStatus 0 ∧
    (kindHeadStatus, kindHeadSummary, kindCondReport, kindSlurryReport, kindPartStatus) =
      ((0x09, 0x0A, 0x0B, 0x0C, 0x0D) : Byte × Byte × Byte × Byte × Byte) := by
  refine ⟨?_, ?_, ?_, ?_, ?_, ?_, ?_, ?_, ?_⟩ <;> decide +kernel

/-- A matched and an unmatched return; with a summary slot of a head COMPLETE, with a view-0 slot while one sample is
pending, and while another is staged behind it. -/
theorem witness_ReturnFrameHandled :
    let summary := ownFrame 7 kindHeadSummary 0 []
    let view := ownFrame 7 kindCondReport 0 []
    let named (f : List Byte) (kind : Byte) : Prop :=
      slotNode (slotOf f 0) = ownByte busy ∧ slotKind (slotOf f 0) = kind ∧ slotIndex (slotOf f 0) = 0
    passThrough busy = false ∧ busy.ring.heldD = [] ∧
    frameValid (cycleFrame 7) = true ∧ frameKind (cycleFrame 7) = 1 ∧
    busy.ring.last = some (frameCycle (cycleFrame 7)) ∧ busy.ring.last ≠ some (frameCycle (cycleFrame 6)) ∧
    (frameValid summary = true ∧ frameKind summary = 1 ∧ frameSlotCount summary = 1 ∧
      named summary kindHeadSummary ∧ summaryIndex 0 = some (Head.a, 0) ∧ (completed false).summary.isSome = true) ∧
    (frameValid view = true ∧ frameKind view = 1 ∧ frameSlotCount view = 1 ∧ named view kindCondReport) ∧
    (holding.pendingSample.isSome = true ∧ holding.stagedSample.isSome = true ∧ holding.mode = .reportHold ∧
      holding.cont = .stepWait 1) ∧
    ({ holding with stagedSample := none } : Conditioner).stagedSample = none ∧ busy.retOrders = [] := by
  decide +kernel

/-- One frame for each clause: pass-through, duplicate, corrupt, not for this part, unknown request, held. -/
theorem witness_FramesForwarded :
    let other := (recordWith { request 0 [] with target := 9 } 1 0 0).frame
    let unknown := (recordWith (request 0 []) 12 0 0).frame
    passThrough { busy with address := 63 } = true ∧ busy.ring.last = some (frameCycle (cycleFrame 7)) ∧
    (frameValid [1, 2, 3, 4] = false ∧ 4 ≤ [1, 2, 3, (4 : Byte)].length) ∧
    (frameValid other = true ∧ frameKind other = 2 ∧ (recordOf other).target ≠ ownByte busy) ∧
    (frameValid unknown = true ∧ (recordOf unknown).target = ownByte busy ∧ (recordOf unknown).status = 0xFF#8 ∧
      12 ≤ (recordOf unknown).kind.toNat) ∧
    (∃ x y, (heldIn [x, y] [x, y]).ring.heldU = [x, y] ∧ (heldIn [x] [x]).ring.heldD = [x]) := by
  intro other unknown
  refine ⟨?_, ?_, ?_, ?_, ?_, ⟨[1], arrivalOf busy⟩, ⟨[2], arrivalOf busy⟩, rfl, rfl⟩ <;> decide +kernel

/-! ### Requests -/

theorem executed_of (s : State) (e : Envelope)
    (h : passThrough s = false ∧ s.ring.heldU = [] ∧ e.target = ownByte s ∧ e.status = 0xFF#8) : Executed s e :=
  ⟨h.1, h.2.1, h.2.2.1, h.2.2.2⟩

/-- An answer with the longest data of 48 bytes. -/
theorem witness_RawFrameIsTheRow : (requestRecord (.getParam 0 3 (request 0 []))).isSome = true ∧
    (List.replicate 48 (1 : Byte)).length ≤ 48 := ⟨rfl, by decide⟩

/-- Each bound and the first value beyond it: blocks 4 and 5, pages 10 and 11 of a head, tables 1, 12, 0 and 13, steps
63 and 64, parameters 0, 1, 14, 15, 16, 23 and 24; of each table an entry that is defined, and one that is not. -/
theorem witness_ReadsChangeNothing : Executed busy (request 0 []) ∧ (request 0 []).length.toNat ≤ 48 ∧
    ArbiterInv busy.faults ∧
    (5 ≤ (5 : Byte).toNat ∧ (4 : Byte).toNat < 5 ∧ 11 ≤ (11 : BitVec 16).toNat ∧ (10 : BitVec 16).toNat < 11) ∧
    (13 ≤ (13 : Byte).toNat ∧ 1 ≤ (1 : Byte).toNat ∧ (12 : Byte).toNat - 1 < 12 ∧
      64 ≤ (64 : BitVec 16).toNat ∧ (63 : BitVec 16).toNat < 64) ∧
    (busy.headA.steps[(63 : Fin 64)] = none ∧ (busy.headA.steps[(1 : Fin 64)]).isSome = true ∧
      tableOf 1 .a = 1 ∧ tableOf 1 .b = 2) ∧
    ((busy.cond.segments[(1 : Fin 32)]).isSome = true ∧ busy.cond.segments[(31 : Fin 32)] = none) ∧
    (busy.cond.program.isSome = true ∧ Conditioner.reset.program = none) ∧
    ((busy.slurry.blends[(1 : Fin 16)]).isSome = true ∧ busy.slurry.blends[(15 : Fin 16)] = none) ∧
    ([1, 2, 4, 8, 16, 32][2]? = some (busy.slurry.channels[(0 : Channel)]).prescale ∧
      [8, 9, 10, 12][2]? = some (busy.slurry.channels[(0 : Channel)]).resolution) ∧
    ((busy.ring.slotMap[(0 : Fin 48)]).isSome = true ∧ busy.ring.slotMap[(47 : Fin 48)] = none) ∧
    (∀ n ∈ [0, 1, 8, 9, 14, 15, 16, 23, (24 : Nat)], (BitVec.ofNat 16 n).toNat = n) := by
  refine ⟨executed_of _ _ ?_, ?_, arbiterInv_raised, ?_⟩ <;> decide

/-- A request executed, with head A HELD, a response over another, one channel running and one that is not, and a head
COMPLETE with its summary, a conditioner with two samples and a last command. -/
theorem witness_ReadStateAnswersThePages : Executed busy (request 0 []) ∧ (request 0 []).length.toNat ≤ 48 ∧
    ArbiterInv busy.faults ∧ (0 : Byte).toNat = headIndex .a ∧ (1 : Byte).toNat = headIndex .b ∧
    (8 : BitVec 16).toNat = (7 : Zone).val + 1 ∧ (4 : BitVec 16).toNat = (3 : Fin 4).val + 1 ∧
    Executed (withCond holding) (request 0 []) ∧ (withCond holding).cond.stagedSample.isSome = true ∧
    Executed (withHead (completed true)) (request 0 []) := by
  refine ⟨executed_of _ _ ?_, ?_, arbiterInv_raised, ?_, ?_, ?_, ?_, executed_of _ _ ?_, ?_, executed_of _ _ ?_⟩ <;>
    decide

/-! Entries at the ends of their ranges. -/

/-- A step record: every target and rate, the duration, the exit kind, cap action, removal target, reference zone,
blend, conditioning and the loop. -/
def stepBytes (target rate duration : Nat) (ends : List Byte) (removal : Nat) (rest : List Byte) : List Byte :=
  (List.replicate 8 (put16 target)).flatten ++ (List.replicate 8 (put16 rate)).flatten ++ putLE 4 duration ++ ends ++
    putLE 4 removal ++ rest

/-- The 48 data bytes of a request that carries the given ones. -/
def dataOf (d : List Byte) : List Byte := (request 48 d).data.toList

theorem dataOf_length (d : List Byte) : (dataOf d).length = 48 := Vector.length_toList

/-- The step, coupling and zone records of the heads at both ends of their fields, and one beyond. -/
theorem witness_WriteEntryWrites_heads :
    stepDataOk (dataOf (stepBytes 12000 2000 1000000 [3, 1] 1000000 [7, 15, 2, 63, 250])) = true ∧
    stepDataOk (dataOf (stepBytes 0 1 1 [0, 0] 0 [0, 0xFF, 0, 0, 0])) = true ∧
    stepDataOk (dataOf (stepBytes 12001 2000 1 [0, 0] 0 [0, 0xFF, 0, 0, 0])) = false ∧
    stepDataOk (dataOf (stepBytes 0 0 1 [0, 0] 0 [0, 0xFF, 0, 0, 0])) = false ∧
    stepDataOk (dataOf (stepBytes 0 1 1 [0, 0] 0 [0, 16, 0, 0, 0])) = false ∧
    stepDataOk (dataOf (stepBytes 0 1 1 [0, 0] 0 [0, 0xFF, 0, 64, 1])) = false ∧
    couplingDataOk 0 (dataOf (put16 0 ++ putSigned 2 1024 ++ putSigned 2 (-1024))) = true ∧
    couplingDataOk 0 (dataOf (put16 0 ++ putSigned 2 1025)) = false ∧ couplingDataOk 0 (dataOf (put16 1)) = false ∧
    zoneDataOk 6 (dataOf (put16 12000 ++ put16 12000 ++ put16 12000 ++ put16 2000 ++ put16 12000 ++ put16 65535 ++ [0, 31])) =
      true ∧
    zoneDataOk 7 (dataOf (put16 0 ++ put16 0 ++ put16 0 ++ put16 1 ++ put16 0 ++ put16 1 ++ [0, 31])) = false ∧
    zoneDataOk 7 (dataOf (put16 0 ++ put16 0 ++ put16 0 ++ put16 1 ++ put16 0 ++ put16 1 ++ [0xFF, 0xFF])) = true ∧
    zoneDataOk 0 (dataOf (put16 1 ++ put16 0 ++ put16 0 ++ put16 1 ++ put16 0 ++ put16 1 ++ [0xFF, 0xFF])) =
      false := by decide

/-- The records of the other blocks at both ends of their fields, and one beyond. -/
theorem witness_WriteEntryWrites_blocks :
    let segment (r d f : Nat) (v : Byte) : List Byte := put16 r ++ put16 r ++ put16 d ++ put16 f ++ [v]
    let program (k m trig : Byte) (n r : Nat) : List Byte :=
      [k, k, m, trig] ++ put16 n ++ put16 r ++ put16 r ++ put16 n ++ [0]
    let channel (k r : Byte) (full band n : Nat) : List Byte :=
      [1, k, r, 1, 1, 255] ++ put16 full ++ [1] ++ put16 band ++ put16 n
    segmentDataOk (dataOf (segment 2000 65535 1000 200)) = true ∧ segmentDataOk (dataOf (segment 0 1 1 0)) = true ∧
    segmentDataOk (dataOf (segment 2001 1 1 0)) = false ∧ segmentDataOk (dataOf (segment 0 0 1 0)) = false ∧
    programDataOk (dataOf (program 31 3 7 65535 2000)) = true ∧ programDataOk (dataOf (program 0 0 0 1 0)) = true ∧
    programDataOk (dataOf (program 0 3 0 1 0)) = false ∧ programDataOk (dataOf (program 32 0 0 1 0)) = false ∧
    blendDataOk (dataOf (put16 1000 ++ put16 256 ++ put16 0 ++ put16 0 ++ put16 0)) = true ∧
    blendDataOk (dataOf (put16 1001 ++ put16 256 ++ put16 0 ++ put16 0 ++ put16 0)) = false ∧
    blendDataOk (dataOf (put16 1000 ++ put16 255 ++ put16 0 ++ put16 0 ++ put16 0)) = false ∧
    channelDataOk (dataOf (channel 5 3 1000 1000 65535)) = true ∧ channelDataOk (dataOf (channel 0 0 1 0 1)) = true ∧
    channelDataOk (dataOf (channel 6 0 1 0 1)) = false ∧ channelDataOk (dataOf (channel 0 0 1001 0 1)) = false ∧
    slotEntryOk 5 [] (dataOf [1, 62, 0]) = true ∧ slotEntryOk 5 [] (dataOf [1, 63, 0]) = false ∧
    slotEntryOk 5 [] (dataOf [1, 5, 0]) = false ∧
    slotEntryOk 5 [] (dataOf [0, 0, 0]) = true ∧ sourceDataOk 2 (dataOf [1, 6, 3]) = true ∧
    sourceDataOk 2 (dataOf [1, 7, 3]) = false ∧
    sourceDataOk 1 (dataOf [1, 6, 3]) = false := by decide

/-- Each table's length one short and whole, the last index and the first outside, the window open and closed; the
channel that runs and one that does not; a source below the level with its status clear. A source whose
status is set, written one level above the response level and at it. The data accepted and refused are in the two
theorems above. -/
theorem witness_WriteEntryWrites :
    let idle := withHead (headIn .idle)
    let moving := withCond (condIn .sweeping .continuous .protect)
    let pulsing := busy.slurry.channels[(0 : Channel)]
    let changed := channelOfData (channelData { pulsing with resolution := 8 })
    (∀ n d, Executed idle (request n d) ∧ Executed busy (request n d) ∧ Executed moving (request n d)) ∧
    (∀ n ∈ [46, 47, 13, 14, 8, 9, 12, 2, 3, (10 : Nat)], (request (toByte n) []).length.toNat = n ∧ n ≤ 48) ∧
    (∀ n ∈ [63, 64, 6, 7, 8, 31, 32, 0, 1, 15, 16, 3, 4, 47, 48, 21, (22 : Nat)], (BitVec.ofNat 16 n).toNat = n) ∧
    (idle.headA.mode = .idle ∧ busy.headA.mode ≠ .idle) ∧
    (idle.cond.mode = .parked ∧ idle.cond.demand = Parties.empty ∧ moving.cond.mode ≠ .parked) ∧
    (busy.slurry.blend = some 1 ∧ busy.slurry.blend ≠ some 15) ∧
    ((busy.pulse.ch[(0 : Channel)]).running = true ∧ pulsing.resolution ≠ changed.resolution ∧
      (busy.pulse.ch[(3 : Channel)]).running = false) ∧
    (idle.headA.mode.inUse = false ∧ idle.headB.mode.inUse = false ∧ busy.headA.mode.inUse = true) ∧
    (ArbiterInv busy.faults ∧ raised.sources[(21 : SourceId)].status = false ∧
      raised.sources[(6 : SourceId)].status = true ∧ raised.level + 1 = byteAt (dataOf [1, 5, 2]) 1 ∧
      raised.level = byteAt (dataOf [1, 4, 2]) 1 ∧ Reaction.ofCode 2 = some .hold ∧
      sourceDataOk 6 (dataOf [1, 5, 2]) = true) := by
  refine ⟨fun _ _ => ⟨⟨?_, rfl, ?_, rfl⟩, ⟨?_, rfl, ?_, rfl⟩, ⟨?_, rfl, ?_, rfl⟩⟩, ?_, ?_, ?_, ?_, ?_, ?_, ?_,
    arbiterInv_raised, ?_⟩ <;> first | rfl | decide

/-- Every parameter's two ends and the values one beyond them; each window open and closed; a gap count one below the
new limit and at it; the present rate, a new one, and OFF. -/
theorem witness_SetParamWrites :
    let idle := withHead (headIn .idle)
    let value (v : Int) : Int := signedOf 32 (le32 (request 4 (putSigned 4 v)).data.toList 0)
    let gap (k : Nat) : State := idle.setRing { idle.ring with gap := .running k }
    Executed idle (request 4 (putSigned 4 12000)) ∧ 4 ≤ (request 4 (putSigned 4 12000)).length.toNat ∧
    (∀ v ∈ [(-1 : Int), 0, 64, 65, 12000, 12001, -257, -256, 256, 257, 65535, 65536, 1, 32, 33, 5000, 5001, 1000, 1001,
      255, 499, 500, 100000, 100001, 3, 4], value v = v) ∧
    (idle.headA.mode = .idle ∧ busy.headA.mode ≠ .idle) ∧
    (idle.cond.mode = .parked ∧ idle.cond.demand = Parties.empty ∧
      (withCond holding).cond.demand ≠ Parties.empty) ∧
    ((gap 4999).ring.gap = .running 4999 ∧ 4999 < 5000 ∧ (gap 5000).ring.gap = .running 5000) ∧
    (idle.inputs[(0 : InputId)].rate = .us100 ∧ DiRate.ofCode 0 = some .off ∧ DiRate.ofCode 3 = some .us1000) := by
  refine ⟨executed_of _ _ ?_, ?_⟩ <;> decide

/-- A head IDLE with the given two steps. -/
def recipe (x y : Option StepEntry) : State :=
  withHead { headIn .idle with steps := ((Vector.replicate 64 none).set 0 x).set 1 y }

/-- A step that passes the checks of R4 up to c. -/
theorem passes_of {s : State} {h : Head} {j : Nat} (st : StepEntry) (c : Nat) (hc : c ≤ 9)
    (hs : (s.head h).step j = some st)
    (h4 : 4 < c → ∀ z : Zone,
      (s.head h).zoneConf[z].lmin ≤ st.targets[z] ∧ st.targets[z] ≤ (s.head h).zoneConf[z].lmax)
    (h5 : 5 < c → st.exitKind = .removal ∨ st.exitKind = .removalOrEndpoint →
      st.removalTarget.isSome = true ∧ st.refZone.isSome = true)
    (h6 : 6 < c → ∀ n, st.blend = .index n → (s.slurry.entry n).isSome = true)
    (h7 : 7 < c → ∀ l, st.loop = some l → l.target ≤ j) (h8 : 8 < c → st.loop = none) : passesBefore s h j c := by
  intro n hn
  have hn9 : n < 9 := by omega
  interval_cases n
  · trivial
  · trivial
  · trivial
  · simp [stepPasses, hs]
  all_goals intro st' e; obtain rfl : st = st' := Option.some.inj (hs.symm.trans e)
  · exact h4 hn
  · exact h5 hn
  · exact h6 hn
  · exact h7 hn
  · intro hl; rw [h8 hn] at hl; cases hl

theorem zonesPass_idle : zonesPass (headIn .idle) := ⟨by decide, by decide⟩

theorem recipeValid_idle : RecipeValid (withHead (headIn .idle)) .a := by
  refine ⟨by decide, zonesPass_idle, ?_, by decide⟩
  intro j hj
  have h : j = 0 ∨ j = 1 := by
    have : j < 2 := hj
    omega
  rcases h with rfl | rfl <;>
    exact passes_of (stepOf .time .continue .absent none) 9 (by decide) rfl (fun _ => by decide) nofun nofun nofun
      fun _ => rfl

/-- A valid recipe from IDLE, a head in use, and a recipe for each check of R4 that fails it: no step; limits crossed;
step 0, or step 1 after a step 0 that passes, without entry; then a target past its limit, a removal target missing, a
blend undefined, a loop target beyond the step, two loops that overlap; and zones unbound. Indices 1 and 2. -/
theorem witness_ArmAndDisarm :
    let plain := stepOf .time .continue .absent none
    let high : StepEntry := { plain with targets := Vector.replicate 8 6001 }
    let bare : StepEntry := { stepOf .removal .continue .absent none with removalTarget := none }
    let blended := stepOf .time .continue (.index 2) none
    let ahead := stepOf .time .continue .absent (some ⟨1, 1⟩)
    let round := stepOf .time .continue .absent (some ⟨0, 1⟩)
    let crossed : HeadUnit := { headIn .idle with zoneConf := Vector.replicate 8 ⟨6001, 6000, 800, 300, 300, 2, none⟩ }
    let loose := (withHead (headIn .idle)).setRing { (withHead (headIn .idle)).ring with slotMap := slots.set 7 none }
    let failing (s : State) (j c : Nat) : Prop := passesBefore s .a j c ∧ ¬ stepPasses s .a j c
    Executed (withHead (headIn .idle)) (request 0 []) ∧ (withHead (headIn .idle)).headA.mode = .idle ∧
    RecipeValid (withHead (headIn .idle)) .a ∧ busy.headA.mode.inUse = true ∧
    (1 : BitVec 16).toNat = headIndex .b ∧ 2 ≤ (2 : BitVec 16).toNat ∧
    ({ headIn .idle with stepCount := 0 } : HeadUnit).stepCount = 0 ∧
    (1 ≤ crossed.stepCount ∧ ¬ zonesPass crossed) ∧
    zonesPass (recipe (some plain) none).headA ∧
    failing (recipe none none) 0 3 ∧
    (passesBefore (recipe (some plain) none) .a 0 9 ∧ failing (recipe (some plain) none) 1 3) ∧
    failing (recipe (some high) none) 0 4 ∧ failing (recipe (some bare) none) 0 5 ∧
    failing (recipe (some blended) none) 0 6 ∧ failing (recipe (some ahead) none) 0 7 ∧
    failing (recipe (some round) (some round)) 0 8 ∧
    (∃ z : Zone, slotFor loose.ring (.zoneCommand .a z) = none) := by
  intro plain high bare blended ahead round crossed loose failing
  refine ⟨executed_of _ _ (by decide), rfl, recipeValid_idle, rfl, rfl, by decide, rfl,
    ⟨by decide, fun h => absurd (h.1 0) (by decide)⟩, ⟨by decide, by decide⟩, ⟨?_, nofun⟩,
    ⟨passes_of plain 9 (by decide) rfl (fun _ => by decide) nofun nofun nofun fun _ => rfl, ?_, nofun⟩,
    ⟨passes_of high 4 (by decide) rfl nofun nofun nofun nofun nofun, fun h => absurd (h _ rfl 0) (by decide)⟩,
    ⟨passes_of bare 5 (by decide) rfl (fun _ => by decide) nofun nofun nofun nofun,
      fun h => absurd (h _ rfl (.inl rfl)) (by decide)⟩,
    ⟨passes_of blended 6 (by decide) rfl (fun _ => by decide) nofun nofun nofun nofun,
      fun h => absurd (h _ rfl 2 rfl) (by decide)⟩,
    ⟨passes_of ahead 7 (by decide) rfl (fun _ => by decide) nofun nofun nofun nofun,
      fun h => absurd (h _ rfl _ rfl) (by decide)⟩,
    ⟨passes_of round 8 (by decide) rfl (fun _ => by decide) nofun nofun
        (fun _ l e => by cases e; decide) nofun,
      fun h => h _ rfl rfl 1 (by decide) _ rfl _ rfl ⟨by decide, by decide⟩⟩, 7, by decide⟩
  all_goals
    intro n hn
    interval_cases n <;> trivial

/-- The highest set of three bytes, 63, and one that names source 22. -/
theorem witness_ClearSourcesClears : Executed busy (request 3 [255, 255, 63]) ∧ ArbiterInv busy.faults ∧
    3 ≤ (request 3 [255, 255, 63]).length.toNat ∧ byteAt (request 3 [255, 255, 63]).data.toList 2 < 64 ∧
    64 ≤ byteAt (request 3 [0, 0, 64]).data.toList 2 := by
  refine ⟨executed_of _ _ ?_, arbiterInv_raised, ?_⟩ <;> decide

/-- The last comparator and the first index outside, head 1 and 2, step 63 and 64, enable 1 and 2, a record of three
bytes and of two; level 4 over level 1 with TRACK_A still pending (taken again), and with it cleared (popped); level 0.
-/
theorem witness_HoldPointAndLevelRequests :
    let popped (f : Arbiter) : Arbiter := { f with current := f.stack.head?, stack := f.stack.tail }
    let clear := raised.clearStatus 6
    Executed busy (request 3 [1, 1, 63]) ∧ ArbiterInv busy.faults ∧
    ((1 : BitVec 16).toNat = (1 : Fin 2).val ∧ 2 ≤ (2 : BitVec 16).toNat ∧
      3 ≤ (request 3 [1, 1, 63]).length.toNat ∧ (request 3 [1, 1, 63]).length.toNat ≤ 48 ∧
      byteAt (request 3 [1, 1, 63]).data.toList 0 ≤ 1 ∧
      byteAt (request 3 [1, 1, 63]).data.toList 1 = headIndex .b ∧
      byteAt (request 3 [1, 1, 63]).data.toList 2 = 63) ∧
    (1 < byteAt (request 3 [2, 1, 63]).data.toList 0 ∧ 1 < byteAt (request 3 [1, 2, 63]).data.toList 1 ∧
      63 < byteAt (request 3 [1, 1, 64]).data.toList 2) ∧
    (0 < raised.level ∧ raised.sources[(6 : SourceId)].isPending = true ∧
      (popped raised).level < raised.sources[(6 : SourceId)].level ∧
      ∀ j : SourceId, raised.sources[j].isPending = true → j = 6) ∧
    (0 < clear.level ∧ ∀ i : SourceId, clear.sources[i].isPending = true →
      clear.sources[i].level ≤ (popped clear).level) ∧ Arbiter.reset.level = 0 := by
  refine ⟨executed_of _ _ ?_, arbiterInv_raised, ?_⟩ <;> decide

/-- A head in use, and none in use with the conditioner away from PARKED. -/
theorem witness_ResetRuntimeResets : Executed busy (request 0 []) ∧ busy.headA.mode.inUse = true ∧
    Executed (withCond holding) (request 0 []) ∧ (withCond holding).headA.mode.inUse = false ∧
    (withCond holding).headB.mode.inUse = false := by
  refine ⟨executed_of _ _ ?_, ?_, executed_of _ _ ?_, ?_⟩ <;> decide

/-- An accepted step record with its loop absent and a target byte that is not read back, and one with a loop; an empty
and a bound slot map entry. The other layouts: witness_WriteEntryWrites_heads and witness_WriteEntryWrites_blocks. -/
theorem witness_EntriesReadBackAsWritten :
    let body (target count : Byte) : List Byte := (List.replicate 8 (put16 2000)).flatten ++
      (List.replicate 8 (put16 250)).flatten ++ putLE 4 2 ++ [0, 0] ++ putLE 4 0 ++ [0, 0xFF, 0, target, count, 0]
    (body 9 0).length = 48 ∧ stepDataOk (body 9 0) = true ∧ stepDataOk (body 0 1) = true ∧
      stepDataOk (body 64 1) = false ∧ byteAt (dataOf [0, 9, 9]) 0 = 0 ∧
      slotEntryOk 5 [] (dataOf [1, 62, 0]) = true ∧ byteAt (dataOf [1, 62, 0]) 0 ≠ 0 := by decide

end Sys2Proof.Tests
end

/-! The head directives that touch their own head alone: HOLD (R10) and RECOVER (R14). The rule that carries a
directive's own effect through the command comes first, then what each directive does by the head's state. -/

namespace Sys2Proof.Machine

/-! ### A head directive as a command -/

@[simp] theorem setEndpoint_head (h : Head) (e : Bool) (s : State) :
    (setEndpoint h e s).head h = { s.head h with endpoint := e } := State.head_modHead_same s h _

@[simp] theorem setEndpoint_faults (h : Head) (e : Bool) (s : State) : (setEndpoint h e s).faults = s.faults :=
  State.modHead_faults s h _

@[simp] theorem setEndpoint_due (h : Head) (e : Bool) (s : State) : (setEndpoint h e s).due = s.due :=
  State.modHead_due s h _

theorem whenActive_of_active {f : State → State} {s : State} (hs : passThrough s = false) :
    whenActive f s = f s := by simp [whenActive, hs]

/-- With nothing provoked, nothing is delivered (R161). -/
theorem deliverDue_of_nil (h : Head) {s : State} (hd : s.due = []) : deliverDue h s = s := by
  have hset : s.setDue [] = s := by rw [← hd]; rfl
  simp [deliverDue, hd, hset]

/-- A head directive that provokes nothing leaves as a command what its taking and the record of it leave (R7). -/
theorem headCommand_of_due_nil {act : Head → State → DirOutcome × State} {h : Head} {count : BitVec 4} {e : Bool}
    {s : State} (hactive : passThrough s = false) (hd : (act h (setEndpoint h e s)).2.due = []) :
    headCommand act h count e s = recordHead h count (act h (setEndpoint h e s)) := by
  rw [headCommand, whenActive_of_active hactive, takeHead, deliverDue_of_nil h (by simpa [recordHead] using hd)]

/-- A directive that changes its own head alone, by `f`, leaves as a command that change and the record of it
(R7, R177). -/
theorem headCommand_of_modHead {act : Head → State → DirOutcome × State} {h : Head} {count : BitVec 4} {e : Bool}
    {s : State} {o : DirOutcome} {f : HeadUnit → HeadUnit} (hs : Ready s)
    (ha : act h (setEndpoint h e s) = (o, (setEndpoint h e s).modHead h f)) :
    headCommand act h count e s =
      s.setHead h { f { s.head h with endpoint := e } with dirCount := some count, outcome := some o } := by
  obtain ⟨hactive, hdue⟩ := hs
  have hkept : (act h (setEndpoint h e s)).2.due = [] := by simp [ha, hdue]
  rw [headCommand_of_due_nil hactive hkept, ha, recordHead, setEndpoint, State.modHead_modHead,
    State.modHead_modHead, State.modHead]

/-- A directive that does nothing leaves as a command its record. -/
theorem headCommand_of_unchanged {act : Head → State → DirOutcome × State} {h : Head} {count : BitVec 4} {e : Bool}
    {s : State} {o : DirOutcome} (hs : Ready s) (ha : act h (setEndpoint h e s) = (o, setEndpoint h e s)) :
    headCommand act h count e s = s.setHead h (recorded count e o (s.head h)) :=
  headCommand_of_modHead (f := id) hs (by rw [ha, State.modHead, id, State.setHead_self])

/-! ### HOLD (R10) -/

theorem exec_hold (h : Head) (count : BitVec 4) (e : Bool) (s : State) :
    exec (.hold h count e) s = .next (headCommand actHold h count e s) := rfl

theorem HeadMode.inStep_iff (m : HeadMode) : m.inStep = true ↔ m = .running ∨ m = .held := by
  simp [HeadMode.inStep]

theorem actHold_of_inStep {h : Head} {s : State} (hm : (s.head h).mode.inStep = true) :
    actHold h s = (.taken, s.modHead h fun u =>
      { u with mode := .held, causes := { u.causes with directive := true } }) := if_pos hm

theorem actHold_of_not_inStep {h : Head} {s : State} (hm : ¬ (s.head h).mode.inStep = true) :
    actHold h s = (.ignoredState, s) := if_neg hm

/-- Settles O19: the two cases of R10 by the head's state, each carried through the command. -/
theorem holdDirective : Obligations.HoldDirective := by
  intro h count e s hs
  rw [exec_hold]
  refine ⟨fun hm => ?taken, fun hm => ?ignored⟩
  case taken =>
    have hin : ((setEndpoint h e s).head h).mode.inStep = true := by
      simpa only [setEndpoint_head, HeadMode.inStep_iff] using hm
    exact congrArg _ (headCommand_of_modHead hs (actHold_of_inStep hin))
  case ignored =>
    have hout : ¬ ((setEndpoint h e s).head h).mode.inStep = true := by
      simpa only [setEndpoint_head, HeadMode.inStep_iff, not_or] using hm
    exact congrArg _ (headCommand_of_unchanged hs (actHold_of_not_inStep hout))

/-! ### RECOVER (R14) -/

theorem exec_recover (h : Head) (count : BitVec 4) (e : Bool) (s : State) :
    exec (.recover h count e) s = .next (headCommand actRecover h count e s) := rfl

/-- A source concerns a head when its scope is the platen or that head (R163). -/
theorem concerns_iff (i : SourceId) (h : Head) :
    concerns i h = true ↔ scopeHead i = none ∨ scopeHead i = some h := by
  unfold concerns
  cases scopeHead i <;> simp

theorem Response.ventsHead_iff (r : Response) (h : Head) :
    r.ventsHead h = true ↔ r.reaction = .vent ∧ (scopeHead r.source = none ∨ scopeHead r.source = some h) := by
  simp [Response.ventsHead, concerns_iff]

/-- The responses in force or recorded are the current one and those on the stack (R154). -/
theorem ventInForce_iff (f : Arbiter) (h : Head) :
    ventInForce f h = true ↔ ∃ r ∈ f.current.toList ++ f.stack, r.ventsHead h = true := by
  unfold ventInForce
  cases f.current <;> simp [or_comm]

/-- The two cases of R14: a VENTED head with a level to fall below, and one with vent level 0. -/
theorem recoverAdmitted_iff (h : Head) (s : State) :
    recoverAdmitted h s = true ↔
      (0 < (s.head h).ventLevel ∧ s.faults.level < (s.head h).ventLevel) ∨
      ((s.head h).ventLevel = 0 ∧ ∀ r ∈ s.faults.current.toList ++ s.faults.stack,
        ¬ (r.reaction = .vent ∧ (scopeHead r.source = none ∨ scopeHead r.source = some h))) := by
  simp only [← Response.ventsHead_iff]
  by_cases hz : (s.head h).ventLevel = 0
  · simp [recoverAdmitted, hz, ← Bool.not_eq_true, ventInForce_iff]
  · simp [recoverAdmitted, hz, Nat.pos_of_ne_zero hz]

/-- The endpoint flag has no part in the checks of R14. -/
@[simp] theorem recoverAdmitted_setEndpoint (h : Head) (e : Bool) (s : State) :
    recoverAdmitted h (setEndpoint h e s) = recoverAdmitted h s := by simp [recoverAdmitted]

theorem actRecover_of_admitted {h : Head} {s : State} (hm : (s.head h).mode = .vented)
    (ha : recoverAdmitted h s = true) :
    actRecover h s = (.taken, s.modHead h fun u => { u with mode := .ready, ventLevel := 0 }) := by
  simp [actRecover, hm, ha]

theorem actRecover_of_not_admitted {h : Head} {s : State} (hm : (s.head h).mode = .vented)
    (ha : ¬ recoverAdmitted h s = true) : actRecover h s = (.refusedFault, s) := by
  simp [actRecover, hm, ha]

theorem actRecover_of_not_vented {h : Head} {s : State} (hm : (s.head h).mode ≠ .vented) :
    actRecover h s = (.ignoredState, s) := if_neg hm

/-- Settles O22: the three cases of R14 by the head's state and the admission, each carried through the command. -/
theorem recoverDirective : Obligations.RecoverDirective := by
  intro h count e s hs
  dsimp only
  rw [exec_recover, ← recoverAdmitted_iff, ← recoverAdmitted_setEndpoint h e s]
  have hmode : ((setEndpoint h e s).head h).mode = (s.head h).mode := by simp
  rw [← hmode]
  refine ⟨fun hm ha => ?taken, fun hm ha => ?refused, fun hm => ?ignored⟩
  case taken => exact congrArg _ (headCommand_of_modHead hs (actRecover_of_admitted hm ha))
  case refused => exact congrArg _ (headCommand_of_unchanged hs (actRecover_of_not_admitted hm ha))
  case ignored => exact congrArg _ (headCommand_of_unchanged hs (actRecover_of_not_vented hm))

end Sys2Proof.Machine

/-! The removal estimator (R54 to R60): what an accumulation adds, and what every other work on a return frame keeps of
a head's accumulators. The relation `KeepsRemoval` and its lemmas, one for each shared operation, come first, then the
accumulation itself, then the return frame as what stands before and behind it. -/

namespace Sys2Proof.Machine

/-! ### What keeps a head's removal -/

/-- A head that was as `u` and is as `v` has its wafer accumulators, its removal factor and, with no deferred step, its
step accumulators as they were. -/
structure HeadUnit.KeepsRemoval (u v : HeadUnit) : Prop where
  wafer : v.waferAcc = u.waferAcc
  factor : v.removalK = u.removalK
  step : u.pendingStep = none → v.pendingStep = none ∧ v.stepAcc = u.stepAcc

/-- What any work on a frame keeps of the removal of head `h`, but the accumulation of that head: the accumulators and
all that R58 makes an increment of, and each fault status that is set. -/
structure KeepsRemoval (h : Head) (s t : State) : Prop where
  unit : (s.head h).KeepsRemoval (t.head h)
  presence : t.slurry.presence = s.slurry.presence
  slotMap : t.ring.slotMap = s.ring.slotMap
  status : ∀ i : SourceId, s.faults.sources[i].status = true → t.faults.sources[i].status = true

theorem HeadUnit.KeepsRemoval.refl (u : HeadUnit) : u.KeepsRemoval u := ⟨rfl, rfl, fun hp => ⟨hp, rfl⟩⟩

theorem HeadUnit.KeepsRemoval.trans {u v w : HeadUnit} (huv : u.KeepsRemoval v) (hvw : v.KeepsRemoval w) :
    u.KeepsRemoval w where
  wafer := hvw.wafer.trans huv.wafer
  factor := hvw.factor.trans huv.factor
  step := fun hp =>
    have hv := huv.step hp
    have hw := hvw.step hv.1
    ⟨hw.1, hw.2.trans hv.2⟩

section
variable {h : Head} {s t : State}

theorem KeepsRemoval.refl (h : Head) (s : State) : KeepsRemoval h s s := ⟨.refl _, rfl, rfl, fun _ hi => hi⟩

theorem KeepsRemoval.trans {u : State} (hst : KeepsRemoval h s t) (htu : KeepsRemoval h t u) :
    KeepsRemoval h s u where
  unit := hst.unit.trans htu.unit
  presence := htu.presence.trans hst.presence
  slotMap := htu.slotMap.trans hst.slotMap
  status := fun i hi => htu.status i (hst.status i hi)

/-- A condition that decides between two operations. -/
theorem KeepsRemoval.ite {c : Prop} [Decidable c] {u : State} (ht : c → KeepsRemoval h s t)
    (hu : ¬c → KeepsRemoval h s u) : KeepsRemoval h s (if c then t else u) := by
  split
  · exact ht ‹_›
  · exact hu ‹_›

/-- A fold of steps each of which keeps the removal. -/
theorem KeepsRemoval.foldl {α : Type} {f : State → α → State} (hf : ∀ t x, KeepsRemoval h t (f t x)) (l : List α)
    (s : State) : KeepsRemoval h s (l.foldl f s) := by
  induction l generalizing s with
  | nil => exact .refl h s
  | cons x l ih => exact (hf s x).trans (ih _)

end

/-! #### The updates of the state -/

section
variable (h : Head) (s : State)

theorem keepsRemoval_setCond (x : Conditioner) : KeepsRemoval h s (s.setCond x) :=
  ⟨by simpa using .refl _, rfl, rfl, fun _ hi => hi⟩

theorem keepsRemoval_setPulse (x : Pulse) : KeepsRemoval h s (s.setPulse x) :=
  ⟨by simpa using .refl _, rfl, rfl, fun _ hi => hi⟩

theorem keepsRemoval_setDue (x : List Due) : KeepsRemoval h s (s.setDue x) :=
  ⟨by simpa using .refl _, rfl, rfl, fun _ hi => hi⟩

theorem keepsRemoval_setSlurry {x : Slurry} (hx : x.presence = s.slurry.presence) :
    KeepsRemoval h s (s.setSlurry x) := ⟨by simpa using .refl _, hx, rfl, fun _ hi => hi⟩

theorem keepsRemoval_setRing {x : Ring} (hx : x.slotMap = s.ring.slotMap) : KeepsRemoval h s (s.setRing x) :=
  ⟨by simpa using .refl _, rfl, hx, fun _ hi => hi⟩

theorem keepsRemoval_setFaults {x : Arbiter}
    (hx : ∀ i : SourceId, s.faults.sources[i].status = true → x.sources[i].status = true) :
    KeepsRemoval h s (s.setFaults x) := ⟨by simpa using .refl _, rfl, rfl, hx⟩

/-- A change of any head that keeps that head's removal. -/
theorem keepsRemoval_modHead {k : Head} {f : HeadUnit → HeadUnit} (hf : (s.head k).KeepsRemoval (f (s.head k))) :
    KeepsRemoval h s (s.modHead k f) := by
  refine ⟨?_, by simp, by simp, by simp⟩
  by_cases hk : h = k
  · subst hk; simpa using hf
  · simpa only [State.head_modHead_other s k h f hk] using .refl _

/-- A change of the other head, whatever it is. -/
theorem keepsRemoval_modHead_other {k : Head} (hk : h ≠ k) (f : HeadUnit → HeadUnit) :
    KeepsRemoval h s (s.modHead k f) :=
  ⟨by simpa only [State.head_modHead_other s k h f hk] using .refl _, by simp, by simp, by simp⟩

/-- A change of a head's mode, causes or marks, with a deferred step left as it is or given up. -/
theorem keepsRemoval_modHead_of_accs {k : Head} {f : HeadUnit → HeadUnit}
    (hw : (f (s.head k)).waferAcc = (s.head k).waferAcc) (hf : (f (s.head k)).removalK = (s.head k).removalK)
    (hs : (f (s.head k)).stepAcc = (s.head k).stepAcc)
    (hp : (s.head k).pendingStep = none → (f (s.head k)).pendingStep = none) :
    KeepsRemoval h s (s.modHead k f) := keepsRemoval_modHead h s ⟨hw, hf, fun h₀ => ⟨hp h₀, hs⟩⟩

end

/-! #### Pulse unit, owner set, conditioner -/

section
variable (h : Head)

theorem keepsRemoval_setBlend (b : Option Nat) (o : Parties) (s : State) : KeepsRemoval h s (setBlend b o s) := by
  obtain ⟨p, e⟩ := setBlend_eq b o s
  rw [e]
  exact .trans (keepsRemoval_setSlurry h s (by rfl)) (keepsRemoval_setPulse h _ p)

theorem keepsRemoval_leaveOwnersWith {examine : State → State} (hx : ∀ t, KeepsRemoval h t (examine t)) (p : Party)
    (s : State) : KeepsRemoval h s (leaveOwnersWith examine p s) :=
  .ite (fun _ => (keepsRemoval_setBlend h _ _ s).trans (hx _)) fun _ => .refl h s

theorem keepsRemoval_markUnavailable (s : State) : KeepsRemoval h s (markUnavailable s) := by
  have mark (k : Head) (t : State) : KeepsRemoval h t
      (if s.cond.demand.has (.head k) then t.modHead k fun u => { u with condUnavailable := true } else t) :=
    .ite (fun _ => keepsRemoval_modHead_of_accs h t rfl rfl rfl id) fun _ => .refl h t
  exact (mark .a s).trans (mark .b _)

theorem keepsRemoval_tryStart (s : State) : KeepsRemoval h s (tryStart s) := by
  unfold tryStart
  refine .ite (fun _ => ?_) fun _ => .refl h s
  split
  · exact keepsRemoval_markUnavailable h s
  · exact .ite (fun _ => keepsRemoval_setCond h s _) fun _ => keepsRemoval_markUnavailable h s

theorem keepsRemoval_condJoin (k : Head) (s : State) : KeepsRemoval h s (condJoin k s) :=
  (keepsRemoval_setCond h s _).trans (keepsRemoval_tryStart h _)

/-! #### Step entry and claims -/

theorem keepsRemoval_setWait (k : Head) (n : Option Nat) (s : State) :
    KeepsRemoval h s (s.setSlurry (s.slurry.setWait k n)) := keepsRemoval_setSlurry h s (by cases k <;> rfl)

theorem keepsRemoval_handBlend {examine : State → State} (hx : ∀ t, KeepsRemoval h t (examine t)) (k : Head)
    (f : BlendField) (s : State) : KeepsRemoval h s (handBlend examine k f s) := by
  cases f with
  | absent => exact .refl h s
  | release => exact keepsRemoval_leaveOwnersWith h hx _ s
  | index n => exact keepsRemoval_setSlurry h s (by cases k <;> rfl)

theorem keepsRemoval_handConditioning (k : Head) (f : CondField) (s : State) :
    KeepsRemoval h s (handConditioning k f s) := by
  cases f with
  | absent => exact .refl h s
  | on => exact keepsRemoval_condJoin h k s
  | off => exact keepsRemoval_setCond h s _

/-- The entry of a deferred step keeps the removal: it clears the step accumulators of a head that has such a step, of
which nothing is said. -/
theorem keepsRemoval_beginStepWith_deferred {examine : State → State} (hx : ∀ t, KeepsRemoval h t (examine t))
    {k : Head} {i : Nat} (j : Nat) {s : State} (hp : (s.head k).pendingStep = some i) {f : HeadUnit → HeadUnit}
    (hw : (f (s.head k)).waferAcc = (s.head k).waferAcc) (hf : (f (s.head k)).removalK = (s.head k).removalK) :
    KeepsRemoval h s (beginStepWith examine k j (s.modHead k f)) := by
  have deferred {v : HeadUnit} (hw : v.waferAcc = (s.head k).waferAcc) (hf : v.removalK = (s.head k).removalK) :
      (s.head k).KeepsRemoval v := ⟨hw, hf, fun h₀ => by simp [hp] at h₀⟩
  unfold beginStepWith
  split
  · exact keepsRemoval_modHead h s (deferred hw hf)
  · rw [State.modHead_modHead]
    have entered (st : StepEntry) : KeepsRemoval h s (s.modHead k fun u => (f u).enter j st) :=
      keepsRemoval_modHead h s (deferred hw hf)
    exact ((entered _).trans (keepsRemoval_handBlend h hx k _ _)).trans (keepsRemoval_handConditioning h k _ _)

theorem keepsRemoval_returnIfFreeWith {examine : State → State} (hx : ∀ t, KeepsRemoval h t (examine t)) (k : Head)
    (s : State) : KeepsRemoval h s (returnIfFreeWith examine k s) := by
  unfold returnIfFreeWith
  refine .ite (fun _ => ?_) fun _ => .refl h s
  dsimp only
  split
  · exact keepsRemoval_modHead_of_accs h s rfl rfl rfl fun _ => rfl
  · exact keepsRemoval_beginStepWith_deferred h hx _ ‹_› rfl rfl

theorem keepsRemoval_grantHeadWith {examine : State → State} (hx : ∀ t, KeepsRemoval h t (examine t)) (k : Head)
    (n : Nat) (s : State) : KeepsRemoval h s (grantHeadWith examine k n s) := by
  have granted := (keepsRemoval_setBlend h (some n) (s.slurry.owners.put (.head k) true) s).trans
    (keepsRemoval_setWait h k none _)
  refine .ite (fun _ => granted.trans ?_) fun _ => granted
  exact (keepsRemoval_modHead_of_accs h _ rfl rfl rfl id).trans (keepsRemoval_returnIfFreeWith h hx k _)

theorem keepsRemoval_examineHeadWith {examine : State → State} (hx : ∀ t, KeepsRemoval h t (examine t)) (k : Head)
    (s : State) : KeepsRemoval h s (examineHeadWith examine k s) := by
  unfold examineHeadWith
  split
  · exact .refl h s
  · exact .ite (fun _ => keepsRemoval_grantHeadWith h hx k _ s) fun _ => .refl h s

theorem keepsRemoval_examineWith {inner : State → State} (hx : ∀ t, KeepsRemoval h t (inner t)) (s : State) :
    KeepsRemoval h s (examineWith inner s) :=
  (keepsRemoval_examineHeadWith h hx .a s).trans (keepsRemoval_examineHeadWith h hx .b _)

theorem keepsRemoval_examine (s : State) : KeepsRemoval h s (examine s) :=
  keepsRemoval_examineWith h (keepsRemoval_examineWith h fun t => .refl h t) s

theorem keepsRemoval_leaveOwners (p : Party) (s : State) : KeepsRemoval h s (leaveOwners p s) :=
  keepsRemoval_leaveOwnersWith h (keepsRemoval_examine h) p s

/-! #### Leaving a step, reactions, detections -/

theorem keepsRemoval_dropClaims (k : Head) (s : State) : KeepsRemoval h s (dropClaims k s) :=
  keepsRemoval_setSlurry h s (by cases k <;> rfl)

/-- What R18 does behind the change of the head's own unit. -/
theorem keepsRemoval_leaveShared (k : Head) (s : State) :
    KeepsRemoval h s (condLeave (.head k) (leaveOwners (.head k) (dropClaims k s))) :=
  ((keepsRemoval_dropClaims h k s).trans (keepsRemoval_leaveOwners h _ _)).trans (keepsRemoval_setCond h _ _)

theorem keepsRemoval_withdraw (k : Head) (s : State) : KeepsRemoval h s (withdraw k s) :=
  (keepsRemoval_modHead_of_accs h s rfl rfl rfl fun _ => rfl).trans (keepsRemoval_leaveShared h k _)

theorem keepsRemoval_enterRampdown (cause : EndCause) (k : Head) (s : State) :
    KeepsRemoval h s (enterRampdown cause k s) :=
  (keepsRemoval_modHead_of_accs h s rfl rfl rfl id).trans (keepsRemoval_withdraw h k _)

theorem keepsRemoval_enterVented (level : Nat) (k : Head) (s : State) :
    KeepsRemoval h s (enterVented level k s) := by
  have vented : KeepsRemoval h s (s.modHead k fun u => { u with mode := .vented, ventLevel := level }) :=
    keepsRemoval_modHead_of_accs h s rfl rfl rfl id
  exact .ite (fun _ => vented.trans (keepsRemoval_withdraw h k _)) fun _ => vented

theorem keepsRemoval_reactHead (reaction : Reaction) (level : Nat) (k : Head) (s : State) :
    KeepsRemoval h s (reactHead reaction level k s) := by
  cases reaction with
  | notify => exact .refl h s
  | hold => exact .ite (fun _ => keepsRemoval_modHead_of_accs h s rfl rfl rfl id) fun _ => .refl h s
  | retract => exact .ite (fun _ => keepsRemoval_enterRampdown h _ k s) fun _ => .refl h s
  | vent =>
    unfold reactHead
    dsimp only
    split
    · exact .refl h s
    · exact keepsRemoval_modHead_of_accs h s rfl rfl rfl id
    · exact keepsRemoval_enterVented h level k s

theorem keepsRemoval_handHead (busy : Option Head) (r : Response) (k : Head) (s : State) :
    KeepsRemoval h s (handHead busy r k s) :=
  .ite (fun _ => keepsRemoval_setDue h s _) fun _ => keepsRemoval_reactHead h _ _ k s

theorem keepsRemoval_deliver (busy : Option Head) (r : Response) (s : State) :
    KeepsRemoval h s (deliver busy r s) := by
  unfold deliver
  split
  · exact keepsRemoval_handHead h busy r _ s
  · have heads := (keepsRemoval_handHead h busy r .a s).trans (keepsRemoval_handHead h busy r .b _)
    have cond (t : State) : KeepsRemoval h t (reactCond r.reaction t) :=
      .ite (fun _ => keepsRemoval_setCond h t _) fun _ => .refl h t
    have slurry (t : State) : KeepsRemoval h t (reactSlurry r.reaction t) :=
      .ite (fun _ => keepsRemoval_leaveOwners h _ t) fun _ => .refl h t
    have pulse (t : State) : KeepsRemoval h t (reactPulse r.reaction t) :=
      .ite (fun _ => keepsRemoval_setPulse h t _) fun _ => .refl h t
    exact ((heads.trans (cond _)).trans (slurry _)).trans (pulse _)

theorem keepsRemoval_applyTaking (busy : Option Head) (s : State) : KeepsRemoval h s (applyTaking busy s) := by
  have hsources := take_sources s.faults
  unfold applyTaking
  split
  · exact .refl h s
  · rename_i r f htake
    rw [htake] at hsources
    exact (keepsRemoval_setFaults h s fun i hi => hsources ▸ hi).trans (keepsRemoval_deliver h busy r _)

end

/-! ### Detections -/

/-- Setting a status sets that one and changes no other source (R149). -/
theorem Arbiter.setStatus_sources (f : Arbiter) (i j : SourceId) :
    (f.setStatus i).sources[j] = if i = j then { f.sources[i] with status := true } else f.sources[j] := by
  simp [Arbiter.setStatus, Vector.getElem_set, Fin.ext_iff]

@[simp] theorem Arbiter.setStatus_level (f : Arbiter) (i : SourceId) : (f.setStatus i).level = f.level := rfl

theorem keepsRemoval_detect (h : Head) (i : SourceId) (s : State) : KeepsRemoval h s (detect i s) := by
  refine (keepsRemoval_setFaults h s fun j hj => ?_).trans (keepsRemoval_applyTaking h none _)
  rw [Arbiter.setStatus_sources]
  split
  · rfl
  · exact hj

/-- A detected source has its status set (R149). -/
theorem detect_status (i : SourceId) (s : State) : (detect i s).faults.sources[i].status = true := by
  refine (keepsRemoval_applyTaking .a none (s.setFaults (s.faults.setStatus i))).status i ?_
  rw [State.setFaults_faults, Arbiter.setStatus_sources, if_pos rfl]

/-- The taking rule chooses among the pending sources (R152). -/
theorem Arbiter.choice_isPending {f : Arbiter} {i : SourceId} (hi : f.choice = some i) :
    f.sources[i].isPending = true := by
  have fold (l : List SourceId) (best : Option SourceId) (hb : ∀ j ∈ best, f.sources[j].isPending = true) :
      ∀ j ∈ l.foldl (higherPending f) best, f.sources[j].isPending = true := by
    induction l generalizing best with
    | nil => exact hb
    | cons x l ih =>
      refine ih _ ?_
      unfold higherPending
      split
      · split <;> grind
      · exact hb
  exact fold allSources none (by simp) i hi

/-- Where no source is pending above the response level, a detection takes nothing or the source detected (R152). -/
theorem detect_cases {i : SourceId} {s : State} (hf : ArbiterInv s.faults) :
    detect i s = s.setFaults (s.faults.setStatus i) ∨
    ∃ (r : Response) (f : Arbiter), r.source = i ∧ detect i s = deliver none r (s.setFaults f) := by
  unfold detect detectWhile applyTaking
  rcases take_cases (s.faults.setStatus i) with htake | ⟨j, hj, hlevel, htake⟩
  · left; simp [htake]
  · right
    have hpending := Arbiter.choice_isPending hj
    rw [Arbiter.setStatus_level] at hlevel
    rw [Arbiter.setStatus_sources] at hlevel hpending
    have hji : i = j := by
      by_contra hne
      rw [if_neg hne] at hlevel hpending
      exact absurd (hf.nothingAbove j hpending) (by omega)
    simp only [State.setFaults_faults, htake]
    exact ⟨_, _, hji.symm, rfl⟩

/-! ### The accumulation (R54 to R60) -/

/-- The increments of a head's membrane zones (R56 to R58). -/
def increments (a : Nat) (h : Head) (p : Zone → Option Nat) (v : Option Nat) (s : State) (k : Fin 7) : Nat :=
  zoneIncrement (p (membrane k)) v s.slurry.presence (s.head h).removalK a

/-- A head with increments added to its accumulators (R59). -/
def HeadUnit.addRemoval (inc : Fin 7 → Nat) (u : HeadUnit) : HeadUnit :=
  { u with
    stepAcc := Vector.ofFn fun k => satAdd accMax u.stepAcc[k] (inc k)
    waferAcc := Vector.ofFn fun k => satAdd accMax u.waferAcc[k] (inc k) }

/-- Some nonzero increment leaves an accumulator at its ceiling (R60). -/
def HeadUnit.Saturates (inc : Fin 7 → Nat) (u : HeadUnit) : Prop :=
  ∃ k : Fin 7, 0 < inc k ∧ (2 ^ 48 - 1 ≤ u.stepAcc[k] + inc k ∨ 2 ^ 48 - 1 ≤ u.waferAcc[k] + inc k)

theorem HeadUnit.addRemoval_stepAcc (inc : Fin 7 → Nat) (u : HeadUnit) (k : Fin 7) :
    (u.addRemoval inc).stepAcc[k] = min (2 ^ 48 - 1) (u.stepAcc[k] + inc k) := by
  simp [HeadUnit.addRemoval, satAdd, accMax]

theorem HeadUnit.addRemoval_waferAcc (inc : Fin 7 → Nat) (u : HeadUnit) (k : Fin 7) :
    (u.addRemoval inc).waferAcc[k] = min (2 ^ 48 - 1) (u.waferAcc[k] + inc k) := by
  simp [HeadUnit.addRemoval, satAdd, accMax]

/-- The flag that `accumulate` computes is R60's condition. -/
theorem saturates_iff (inc : Fin 7 → Nat) (u : HeadUnit) :
    ([0, 1, 2, 3, 4, 5, 6].any fun k : Fin 7 => (addIncrement (inc k) u.stepAcc[k] u.waferAcc[k]).2) = true ↔
      u.Saturates inc := by
  have all : ∀ k : Fin 7, k ∈ ([0, 1, 2, 3, 4, 5, 6] : List (Fin 7)) := by decide
  simp only [List.any_eq_true, addIncrement, satAdd, accMax, Bool.and_eq_true, Bool.or_eq_true, decide_eq_true_eq,
    beq_iff_eq, min_eq_left_iff, all, true_and, HeadUnit.Saturates]

section
variable {a : Nat} {h : Head} {p : Zone → Option Nat} {v : Option Nat} {s : State}

theorem accumulate_of_saturates (hs : (s.head h).Saturates (increments a h p v s)) :
    accumulate a h p v s =
      detect (Src.removalSaturated h) (s.modHead h (HeadUnit.addRemoval (increments a h p v s))) :=
  if_pos ((saturates_iff _ _).mpr hs)

theorem accumulate_of_not_saturates (hs : ¬(s.head h).Saturates (increments a h p v s)) :
    accumulate a h p v s = s.modHead h (HeadUnit.addRemoval (increments a h p v s)) :=
  if_neg (mt (saturates_iff _ _).mp hs)

/-- Behind the addition an accumulation can only detect the saturation. -/
theorem keepsRemoval_accumulate (k : Head) :
    KeepsRemoval k (s.modHead h (HeadUnit.addRemoval (increments a h p v s))) (accumulate a h p v s) := by
  by_cases hs : (s.head h).Saturates (increments a h p v s)
  · rw [accumulate_of_saturates hs]; exact keepsRemoval_detect k _ _
  · rw [accumulate_of_not_saturates hs]; exact .refl k _

theorem accumulate_status (hs : (s.head h).Saturates (increments a h p v s)) :
    (accumulate a h p v s).faults.sources[Src.removalSaturated h].status = true := by
  rw [accumulate_of_saturates hs]; exact detect_status _ _

/-- R18 clears a deferred step before the shared blocks hear of it, so the head's own step accumulators stay. -/
theorem withdraw_stepAcc (h : Head) (s : State) : ((withdraw h s).head h).stepAcc = (s.head h).stepAcc := by
  have hshared := (keepsRemoval_leaveShared h h (s.modHead h fun u =>
    { u with causes := .none, pendingStep := none, loopCounter := 0 })).unit.step
  simp only [State.head_modHead_same, true_implies] at hshared
  exact hshared.2

/-- A reaction that reaches a head alone keeps that head's step accumulators, with a deferred step too. -/
theorem reactHead_stepAcc (reaction : Reaction) (level : Nat) (h : Head) (s : State) :
    ((reactHead reaction level h s).head h).stepAcc = (s.head h).stepAcc := by
  have same {f : HeadUnit → HeadUnit} (hf : (f (s.head h)).stepAcc = (s.head h).stepAcc) :
      ((s.modHead h f).head h).stepAcc = (s.head h).stepAcc := by rw [State.head_modHead_same, hf]
  cases reaction with
  | notify => rfl
  | hold =>
    unfold reactHead
    dsimp only
    split
    · exact same rfl
    · rfl
  | retract =>
    unfold reactHead
    dsimp only
    split
    · exact (withdraw_stepAcc h _).trans (same rfl)
    · rfl
  | vent =>
    unfold reactHead
    dsimp only
    split
    · rfl
    · exact same rfl
    · unfold enterVented
      dsimp only
      split
      · exact (withdraw_stepAcc h _).trans (same rfl)
      · exact same rfl

theorem scopeHead_removalSaturated (h : Head) : scopeHead (Src.removalSaturated h) = some h := by
  cases h <;> rfl

/-- A response to REMOVAL_SATURATED reaches its own head alone (R157). -/
theorem deliver_removalSaturated {r : Response} (hr : r.source = Src.removalSaturated h) (s : State) :
    deliver none r s = reactHead r.reaction r.level h s := by
  simp [deliver, hr, scopeHead_removalSaturated, handHead]

theorem detect_removalSaturated_stepAcc (hf : ArbiterInv s.faults) :
    ((detect (Src.removalSaturated h) s).head h).stepAcc = (s.head h).stepAcc := by
  rcases detect_cases (i := Src.removalSaturated h) hf with e | ⟨r, f, hr, e⟩
  · rw [e, State.setFaults_head]
  · rw [e, deliver_removalSaturated hr, reactHead_stepAcc, State.setFaults_head]

theorem accumulate_stepAcc (hf : ArbiterInv s.faults) :
    ((accumulate a h p v s).head h).stepAcc = ((s.head h).addRemoval (increments a h p v s)).stepAcc := by
  by_cases hs : (s.head h).Saturates (increments a h p v s)
  · rw [accumulate_of_saturates hs, detect_removalSaturated_stepAcc (by simpa using hf), State.head_modHead_same]
  · rw [accumulate_of_not_saturates hs, State.head_modHead_same]

theorem accumulate_waferAcc :
    ((accumulate a h p v s).head h).waferAcc = ((s.head h).addRemoval (increments a h p v s)).waferAcc := by
  rw [(keepsRemoval_accumulate h).unit.wafer, State.head_modHead_same]

theorem accumulate_stepAcc_of_not_deferred (hp : (s.head h).pendingStep = none) :
    ((accumulate a h p v s).head h).pendingStep = none ∧
      ((accumulate a h p v s).head h).stepAcc = ((s.head h).addRemoval (increments a h p v s)).stepAcc := by
  have hkept := (keepsRemoval_accumulate (a := a) (h := h) (p := p) (v := v) (s := s) h).unit.step
  simpa [HeadUnit.addRemoval, hp] using hkept

/-- The accumulation of one head keeps the other's removal. -/
theorem keepsRemoval_accumulate_other {k : Head} (hk : k ≠ h) : KeepsRemoval k s (accumulate a h p v s) :=
  (keepsRemoval_modHead_other k s hk _).trans (keepsRemoval_accumulate k)

end

/-! ### The return frame -/

theorem keepsRemoval_trackCheck (h : Head) (a : Nat) (k : Head) (r : Zone → Option Nat) (s : State) :
    KeepsRemoval h s (trackCheck a k r s) := by
  have counted : KeepsRemoval h s (s.modHead k fun u => { u with
      zones := Vector.ofFn fun z => trackZone u.zoneConf[z] a (r z) u.zones[z] }) :=
    keepsRemoval_modHead_of_accs h s rfl rfl rfl id
  exact .ite (fun _ => counted.trans (keepsRemoval_detect h _ _)) fun _ => counted

theorem keepsRemoval_arrive (h : Head) (s : State) : KeepsRemoval h s (arrive s) := by
  unfold arrive
  split
  · exact keepsRemoval_setCond h s _
  · exact keepsRemoval_setCond h s _
  · exact (keepsRemoval_setCond h s _).trans (keepsRemoval_tryStart h _)
  · exact .refl h s

theorem keepsRemoval_arrivalCheck (h : Head) (m : CondMode) (r : Option Nat) (s : State) :
    KeepsRemoval h s (arrivalCheck m r s) := by
  unfold arrivalCheck
  split
  · exact .ite (fun _ => keepsRemoval_arrive h s) fun _ => .refl h s
  · exact .refl h s

theorem keepsRemoval_flowCheck (h : Head) (a : Nat) (r : Channel → Option Nat) (s : State) :
    KeepsRemoval h s (flowCheck a r s) := by
  have counted : KeepsRemoval h s (s.setSlurry { s.slurry with
      flows := Vector.ofFn fun c => checkFlow s.slurry.channels[c] a (r c) s.slurry.flows[c] }) :=
    keepsRemoval_setSlurry h s rfl
  exact .ite (fun _ => counted.trans (keepsRemoval_detect h _ _)) fun _ => counted

theorem keepsRemoval_markCarried (h k : Head) (parts : List (Fin 8)) (s : State) :
    KeepsRemoval h s (markCarried k parts s) := keepsRemoval_modHead_of_accs h s rfl rfl rfl id

theorem keepsRemoval_takeReadbacks (h : Head) (slots : List (List Byte)) (s : State) :
    KeepsRemoval h s (takeReadbacks slots s) := by
  refine .foldl (fun t k => ?_) allReadbacks s
  unfold takeReadback
  split
  · exact .refl h t
  · exact keepsRemoval_setRing h t rfl

theorem keepsRemoval_onMatched {h : Head} {f : State → State} {s : State} (v : ReturnFrame)
    (hf : KeepsRemoval h s (f s)) : KeepsRemoval h s (onMatched v f s) := .ite (fun _ => hf) fun _ => .refl h s

/-- Every block's return work but the removal of the head itself keeps its removal. -/
theorem keepsRemoval_retTask {h : Head} {t : RetTask} (ht : t ≠ .removal h) (v : ReturnFrame) (w : Work) :
    KeepsRemoval h w.1 (retTask v t w).1 := by
  cases t with
  | track k =>
    exact keepsRemoval_onMatched v (.ite (fun _ => keepsRemoval_trackCheck h _ k _ _) fun _ => .refl h _)
  | removal k =>
    have hk : h ≠ k := fun e => ht (e ▸ rfl)
    exact keepsRemoval_onMatched v (.ite (fun _ => keepsRemoval_accumulate_other hk) fun _ => .refl h _)
  | arrival => exact keepsRemoval_onMatched v (keepsRemoval_arrivalCheck h _ _ _)
  | flow => exact keepsRemoval_onMatched v (keepsRemoval_flowCheck h _ _ _)
  | fillSummary k => exact keepsRemoval_onMatched v (keepsRemoval_markCarried h k _ _)
  | carryCond =>
    exact keepsRemoval_onMatched v (.ite (fun _ => keepsRemoval_setCond h _ _) fun _ => .refl h _)
  | fillStatus | fillCond | fillSlurry | fillPart => exact .refl h _

theorem keepsRemoval_retTasks {h : Head} {l : List RetTask} (hl : .removal h ∉ l) (v : ReturnFrame) (w : Work) :
    KeepsRemoval h w.1 (l.foldl (fun w t => retTask v t w) w).1 := by
  induction l generalizing w with
  | nil => exact .refl h _
  | cons t l ih =>
    obtain ⟨ht, hl⟩ := List.ne_and_not_mem_of_not_mem_cons hl
    exact (keepsRemoval_retTask (Ne.symm ht) v w).trans (ih hl _)

/-- Each order of the return work has every task once. -/
theorem nextRet_count (s : State) (t : RetTask) (ht : t ∈ defaultRet) : (nextRet s).count t = 1 := by
  have hdefault : ∀ t ∈ defaultRet, defaultRet.count t = 1 := by decide
  unfold nextRet
  split
  · exact hdefault t ht
  · split
    · rename_i hok
      simp only [retOrderOk, Bool.and_eq_true, List.all_eq_true, decide_eq_true_eq] at hok
      exact hok.1.2 t ht
    · exact hdefault t ht

/-- What a matched return does to a head's removal: the accumulation, for a head in use at its arrival (R54). -/
def removalWork (v : ReturnFrame) (h : Head) (s : State) : State :=
  onMatched v (fun s => if (v.arrival.mode h).inUse then
    accumulate v.arrival.advance h (fun z => frameReadback s.ring v.slots (.zone h z))
      (frameReadback s.ring v.slots (.velocity h)) s else s) s

theorem retTask_removal (v : ReturnFrame) (h : Head) (w : Work) :
    retTask v (.removal h) w = (removalWork v h w.1, w.2) := rfl

/-- A return's work is the removal work of a head between works that keep its removal. -/
theorem returnWork_split (h : Head) (v : ReturnFrame) (s : State) :
    ∃ m : State, KeepsRemoval h s m ∧ KeepsRemoval h (removalWork v h m) (returnWork v s).1 := by
  have hcount := nextRet_count s (.removal h) (by cases h <;> decide)
  obtain ⟨before, behind, hsplit⟩ := List.append_of_mem (List.count_pos_iff.mp (hcount ▸ Nat.one_pos))
  rw [hsplit, List.count_append, List.count_cons_self] at hcount
  have hbefore : .removal h ∉ before := List.count_eq_zero.mp (by omega)
  have hbehind : .removal h ∉ behind := List.count_eq_zero.mp (by omega)
  have hstart : KeepsRemoval h s { s with retOrders := s.retOrders.tail } := by
    cases h <;> exact ⟨.refl _, rfl, rfl, fun _ hi => hi⟩
  refine ⟨_, hstart.trans (keepsRemoval_retTasks hbefore v (_, v.slots)), ?_⟩
  rw [returnWork, hsplit, List.foldl_append, List.foldl_cons]
  exact keepsRemoval_retTasks hbehind v (retTask v (.removal h) _)

theorem handleReturn_split (h : Head) (f : List Byte) (v : Arrival) (s : State) :
    ∃ m : State, KeepsRemoval h s m ∧
      KeepsRemoval h (removalWork ⟨v.isMatched f, frameSlots f, v⟩ h m) (handleReturn f v s) := by
  obtain ⟨m, hbefore, hbehind⟩ := returnWork_split h ⟨v.isMatched f, frameSlots f, v⟩
    (onMatched ⟨v.isMatched f, frameSlots f, v⟩ (takeReadbacks (frameSlots f)) s)
  exact ⟨m, (keepsRemoval_onMatched _ (keepsRemoval_takeReadbacks h _ s)).trans hbefore,
    hbehind.trans (keepsRemoval_setRing h _ rfl)⟩

/-- A valid cycle frame at port D, with none held there, is handled at once (R167, R172). -/
theorem exec_returnCycleFrame_of_valid {f : List Byte} {s : State} (hactive : passThrough s = false)
    (hheld : s.ring.heldD = []) (hvalid : frameValid f = true) (hkind : frameKind f = 1) :
    exec (.returnCycleFrame f) s = .next (handleReturn f (arrivalOf s) s) := by
  have hgap : gapAtArrival .d f s = s := rfl
  have hexec : exec (.returnCycleFrame f) s = .next (frameArrives .d f s) := rfl
  rcases frameArrives_cases .d f s with ⟨-, e⟩ | ⟨x, hx, -⟩ | ⟨hfull, -⟩
  · simp [hexec, e, hgap, handleFrame, hactive, hvalid, handleValid, hkind]
  · simp [heldAt, hheld] at hx
  · simp [heldAt, hheld] at hfull

theorem isMatched_arrivalOf (f : List Byte) (s : State) :
    (arrivalOf s).isMatched f = true ↔ s.ring.last = some (frameCycle f) := by
  simp [Arrival.isMatched]

/-- A binding's readback in a frame depends on the slot map alone. -/
theorem frameReadback_congr {r q : Ring} (hrq : r.slotMap = q.slotMap) : frameReadback r = frameReadback q := by
  funext slots k
  simp [frameReadback, boundPayload, slotFor, hrq]

/-- The increments of a head by a return frame, with the readbacks that it carries (R54 to R58). -/
def frameIncrements (f : List Byte) (h : Head) (s : State) : Fin 7 → Nat :=
  increments s.ring.advance h (fun z => frameReadback s.ring (frameSlots f) (.zone h z))
    (frameReadback s.ring (frameSlots f) (.velocity h)) s

section
variable {f : List Byte} {h : Head} {s : State}

/-- A matched return for a head in use is the accumulation of the frame's increments, between works that keep the
head's removal. -/
theorem handleReturn_accumulates (hmatched : s.ring.last = some (frameCycle f))
    (huse : (s.head h).mode.inUse = true) :
    ∃ (m : State) (p : Zone → Option Nat) (v : Option Nat),
      increments s.ring.advance h p v m = frameIncrements f h s ∧ KeepsRemoval h s m ∧
      KeepsRemoval h (accumulate s.ring.advance h p v m) (handleReturn f (arrivalOf s) s) := by
  obtain ⟨m, hbefore, hbehind⟩ := handleReturn_split h f (arrivalOf s) s
  simp only [removalWork, onMatched, (isMatched_arrivalOf f s).mpr hmatched, if_true, arrivalOf_mode, huse,
    arrivalOf_advance] at hbehind
  refine ⟨m, _, _, ?_, hbefore, hbehind⟩
  funext k
  simp only [frameIncrements, increments, frameReadback_congr hbefore.slotMap, hbefore.presence,
    hbefore.unit.factor]

/-- No increment reaches a head by an unmatched return, nor one out of use at the arrival (R54). -/
theorem keepsRemoval_handleReturn
    (hnone : s.ring.last ≠ some (frameCycle f) ∨ (s.head h).mode.inUse = false) :
    KeepsRemoval h s (handleReturn f (arrivalOf s) s) := by
  obtain ⟨m, hbefore, hbehind⟩ := handleReturn_split h f (arrivalOf s) s
  have hidle : removalWork ⟨(arrivalOf s).isMatched f, frameSlots f, arrivalOf s⟩ h m = m := by
    rcases hnone with hunmatched | huse
    · have hm : (arrivalOf s).isMatched f = false := by
        rwa [← Bool.not_eq_true, isMatched_arrivalOf]
      simp [removalWork, onMatched, hm]
    · simp [removalWork, onMatched, huse]
  rw [hidle] at hbehind
  exact hbefore.trans hbehind

theorem handleReturn_waferAcc (hmatched : s.ring.last = some (frameCycle f))
    (huse : (s.head h).mode.inUse = true) :
    ((handleReturn f (arrivalOf s) s).head h).waferAcc =
      ((s.head h).addRemoval (frameIncrements f h s)).waferAcc := by
  obtain ⟨m, p, v, hinc, hbefore, hbehind⟩ := handleReturn_accumulates hmatched huse
  rw [hbehind.unit.wafer, accumulate_waferAcc, hinc, HeadUnit.addRemoval, HeadUnit.addRemoval, hbefore.unit.wafer]

theorem handleReturn_stepAcc (hmatched : s.ring.last = some (frameCycle f))
    (huse : (s.head h).mode.inUse = true) (hp : (s.head h).pendingStep = none) :
    ((handleReturn f (arrivalOf s) s).head h).stepAcc =
      ((s.head h).addRemoval (frameIncrements f h s)).stepAcc := by
  obtain ⟨m, p, v, hinc, hbefore, hbehind⟩ := handleReturn_accumulates hmatched huse
  obtain ⟨hpm, hstep⟩ := hbefore.unit.step hp
  obtain ⟨hpa, hadded⟩ := accumulate_stepAcc_of_not_deferred (a := s.ring.advance) (p := p) (v := v) hpm
  rw [(hbehind.unit.step hpa).2, hadded, hinc, HeadUnit.addRemoval, HeadUnit.addRemoval, hstep]

theorem handleReturn_status (hmatched : s.ring.last = some (frameCycle f))
    (huse : (s.head h).mode.inUse = true) {k : Fin 7} (hpos : 0 < frameIncrements f h s k)
    (hfull : 2 ^ 48 - 1 ≤ (s.head h).waferAcc[k] + frameIncrements f h s k) :
    (handleReturn f (arrivalOf s) s).faults.sources[Src.removalSaturated h].status = true := by
  obtain ⟨m, p, v, hinc, hbefore, hbehind⟩ := handleReturn_accumulates hmatched huse
  refine hbehind.status _ (accumulate_status ⟨k, ?_⟩)
  rw [hinc, hbefore.unit.wafer]
  exact ⟨hpos, .inr hfull⟩

end

/-! ### The statement -/

theorem not_saturates {inc : Fin 7 → Nat} {u : HeadUnit} (hinc : ∀ k : Fin 7, inc k = 0 ∨
    (u.stepAcc[k] + inc k < 2 ^ 48 - 1 ∧ u.waferAcc[k] + inc k < 2 ^ 48 - 1)) : ¬u.Saturates inc := by
  rintro ⟨k, hpos, hfull⟩
  have := hinc k
  omega

/-- Settles O28: the first part by whether an accumulator is left at its ceiling, the second by whether the matched
return accumulates for the head. -/
theorem removalAdds : Obligations.RemovalAdds := by
  refine ⟨fun a h p v s hf => ?accumulation, fun h f s hactive hheld hvalid hkind => ?frame⟩
  case accumulation =>
    refine ⟨fun k => ⟨?_, ?_⟩, fun hs => accumulate_status hs, fun hs => ?_⟩
    · rw [accumulate_stepAcc hf]; exact HeadUnit.addRemoval_stepAcc _ _ k
    · rw [accumulate_waferAcc]; exact HeadUnit.addRemoval_waferAcc _ _ k
    · rw [accumulate_of_not_saturates (not_saturates hs), OnlyHead, State.head_modHead_same]
      rfl
  case frame =>
    refine ⟨_, exec_returnCycleFrame_of_valid hactive hheld hvalid hkind, fun hmatched huse k => ⟨?_, fun hp => ?_⟩,
      fun hmatched huse ⟨k, hpos, hfull⟩ => handleReturn_status hmatched huse hpos hfull, fun hnone => ?_⟩
    · rw [handleReturn_waferAcc hmatched huse]; exact HeadUnit.addRemoval_waferAcc _ _ k
    · rw [handleReturn_stepAcc hmatched huse hp]; exact HeadUnit.addRemoval_stepAcc _ _ k
    · have hkept := (keepsRemoval_handleReturn hnone).unit
      exact ⟨hkept.wafer, fun hp => (hkept.step hp).2⟩

end Sys2Proof.Machine

/-! The request CLEAR_SOURCES (R156). The rule that carries an executed request's answer through its row comes first,
then the taking rule with nothing to take, then what a clear leaves in the arbiter. -/

namespace Sys2Proof.Machine

/-! ### An executed request (R182, R184) -/

/-- The record of an executed request is addressed to the part and not yet answered, so its row leaves the request's
answer. -/
theorem requestFrame_of_executed {op : Record → State → Answer} {e : Envelope} {kind table : Byte}
    {index : BitVec 16} {s t : State} {st : Status} {data : List Byte} {mark : Bool} (hs : Executed s e)
    (ha : op (recordWith e kind table index) s = ⟨st, data, mark, t⟩) :
    requestFrame op (recordWith e kind table index) s =
      .next (answeredWith (recordWith e kind table index) st data mark t) := by
  obtain ⟨hactive, hfree, htarget, hstatus⟩ := hs
  have hrequest : isRequest s (recordWith e kind table index) = true := by
    simp [isRequest, recordWith, htarget, hstatus]
  have hheld : heldAt s .u = [] := hfree
  simp [requestFrame, arriveAt, hheld, hactive, manage, hrequest, ha, answeredWith]

theorem lengthOk_iff (need : Nat) (r : Record) :
    lengthOk need r = true ↔ need ≤ r.length.toNat ∧ r.length.toNat ≤ 48 := by simp [lengthOk]

/-- A request whose checks all pass is carried out. -/
theorem checked_of_passed {need : Nat} {r : Record} (act : State → Answer) (s : State)
    (hl : lengthOk need r = true) : checked need true true none act r s = act s := by simp [checked, hl]

/-- A value out of range is answered BAD_VALUE, whatever the window. -/
theorem checked_of_badValue {need : Nat} {r : Record} (window : Option Status) (act : State → Answer) (s : State)
    (hl : lengthOk need r = true) : checked need true false window act r s = refuse .badValue s := by
  simp [checked, hl]

/-! ### The taking rule with nothing to take (R152) -/

theorem Arbiter.take_of_nothingAbove {f : Arbiter}
    (hf : ∀ i : SourceId, f.sources[i].isPending = true → f.sources[i].level ≤ f.level) : f.take = (none, f) := by
  rcases take_cases f with htake | ⟨i, hi, hlevel, -⟩
  · exact htake
  · exact absurd (hf i (Arbiter.choice_isPending hi)) (Nat.not_le.mpr hlevel)

theorem applyTaking_of_nothingAbove (busy : Option Head) {s : State}
    (hs : ∀ i : SourceId, s.faults.sources[i].isPending = true → s.faults.sources[i].level ≤ s.faults.level) :
    applyTaking busy s = s := by
  simp [applyTaking, Arbiter.take_of_nothingAbove hs]

/-! ### A clear of the named statuses (R156) -/

/-- A clear takes the status of each named source away and keeps the rest of every entry. -/
theorem clearNamed_sources (d : List Byte) (f : Arbiter) (i : SourceId) :
    (clearNamed d f).sources[i] =
      { f.sources[i] with status := f.sources[i].status && !namesSource d i } := by
  cases hn : namesSource d i <;> simp [clearNamed, hn]

@[simp] theorem clearNamed_current (d : List Byte) (f : Arbiter) : (clearNamed d f).current = f.current := by
  rw [clearNamed]
@[simp] theorem clearNamed_stack (d : List Byte) (f : Arbiter) : (clearNamed d f).stack = f.stack := by rw [clearNamed]
@[simp] theorem clearNamed_level (d : List Byte) (f : Arbiter) : (clearNamed d f).level = f.level := by
  rw [Arbiter.level, clearNamed_current, Arbiter.level]

/-- A clear can only remove pending sources. -/
theorem isPending_of_clearNamed {d : List Byte} {f : Arbiter} {i : SourceId}
    (h : (clearNamed d f).sources[i].isPending = true) : f.sources[i].isPending = true := by
  rw [clearNamed_sources] at h
  simp only [SourceState.isPending, Bool.and_eq_true] at h ⊢
  obtain ⟨⟨⟨hstatus, -⟩, henable⟩, hlevel⟩ := h
  exact ⟨⟨hstatus, henable⟩, hlevel⟩

theorem clearNamed_nothingAbove {f : Arbiter} (hf : ArbiterInv f) (d : List Byte) (i : SourceId)
    (hi : (clearNamed d f).sources[i].isPending = true) :
    (clearNamed d f).sources[i].level ≤ (clearNamed d f).level := by
  rw [clearNamed_sources, clearNamed_level]
  exact hf.nothingAbove i (isPending_of_clearNamed hi)

/-! ### CLEAR_SOURCES (R156) -/

theorem exec_clearSources (b : Byte) (x : BitVec 16) (e : Envelope) (s : State) :
    exec (.clearSources b x e) s = requestFrame opClearSources (recordWith e 9 b x) s := rfl

theorem opClearSources_of_named {r : Record} {s : State} (hl : lengthOk 3 r = true) (hf : ArbiterInv s.faults)
    (hd : byteAt r.data 2 < 64) :
    opClearSources r s = carriedOut (s.setFaults (clearNamed r.data s.faults)) := by
  have htaken : applyTaking none (s.setFaults (clearNamed r.data s.faults)) =
      s.setFaults (clearNamed r.data s.faults) :=
    applyTaking_of_nothingAbove none (clearNamed_nothingAbove hf r.data)
  rw [opClearSources, decide_eq_true hd, checked_of_passed _ s hl, htaken]

theorem opClearSources_of_outside {r : Record} (s : State) (hl : lengthOk 3 r = true) (hd : 64 ≤ byteAt r.data 2) :
    opClearSources r s = refuse .badValue s := by
  rw [opClearSources, decide_eq_false (Nat.not_lt.mpr hd), checked_of_badValue _ _ s hl]

/-- Settles O57: a set within 0 to 21 clears what it names and takes nothing, since nothing was pending above the
response level and a clear makes nothing pending; any other set fails the value check. -/
theorem clearSourcesClears : Obligations.ClearSourcesClears := by
  intro b x e s hs hneed hmax hf d r
  have hl : lengthOk 3 r = true := (lengthOk_iff 3 r).mpr ⟨hneed, hmax⟩
  rw [exec_clearSources]
  refine ⟨fun hd => ?cleared, fun hd => ?refused⟩
  case cleared =>
    exact ⟨clearNamed d s.faults, requestFrame_of_executed hs (opClearSources_of_named hl hf hd),
      clearNamed_current d s.faults, clearNamed_stack d s.faults, clearNamed_sources d s.faults⟩
  case refused => exact requestFrame_of_executed hs (opClearSources_of_outside s hl hd)

end Sys2Proof.Machine
